-- ==== Sys2Proof/Word.lean ====
section
/-! DEFINITION. The byte and the byte sequence of spec 00_scope.md R8 and R10. -/

namespace Sys2Proof

/-- A byte: 8 bits, unsigned (00_scope.md R8). -/
abbrev Byte := BitVec 8

/-- A byte sequence, index 0 first on the wire (00_scope.md R10). -/
abbrev Frame := List Byte

end Sys2Proof
end

