-- ==== Sys2Proof/Machine/Operands.lean ====
section
/-! DEFINITION. Operand forms: the range check, the split and assembly of 16-bit values, the checksum
and the frame layout (spec 40_framer.md R100, R101, R104; 20_memory.md R54; 30_encoding.md R84, R85). -/

namespace Sys2Proof.Machine

/-- The header sentinel (30_encoding.md R70). -/
def sentinel : Byte := 0xFF

/-- ValidRaw (40_framer.md R101). -/
def validRaw (raw : Int) : Bool := decide (0 ≤ raw) && decide (raw ≤ 1023)

/-- `lo = raw & 0xFF` (30_encoding.md R84), of a raw value that has passed the range check. -/
def rawLo (raw : Int) : Byte := BitVec.ofNat 8 (raw.toNat % 256)

/-- `hi = raw >> 8` (30_encoding.md R84), of a raw value that has passed the range check. -/
def rawHi (raw : Int) : Byte := BitVec.ofNat 8 (raw.toNat / 256)

/-- A 16-bit value from its low and high byte (20_memory.md R54): `lo + (hi << 8)`. -/
def le16 (lo hi : Byte) : Nat := lo.toNat + 256 * hi.toNat

/-- `sum(s)` (00_scope.md R10): the integer sum, no wrap. -/
def byteSum : Frame → Nat
  | [] => 0
  | b :: bs => b.toNat + byteSum bs

/-- `checksum(body) = 255 - (sum(body) mod 256)` (40_framer.md R100). -/
def checksum (body : Frame) : Byte := BitVec.ofNat 8 (255 - byteSum body % 256)

/-- The bytes a checksum covers: `[id, len, instr] ++ params` with `len = len(params) + 2`
(40_framer.md R104). -/
def frameBody (id instr : Byte) (params : Frame) : Frame :=
  id :: BitVec.ofNat 8 (params.length + 2) :: instr :: params

/-- `Frame(id, instr, params)` (40_framer.md R104). -/
def frame (id instr : Byte) (params : Frame) : Frame :=
  sentinel :: sentinel :: (frameBody id instr params ++ [checksum (frameBody id instr params)])

end Sys2Proof.Machine
end

