-- ==== Sys2Proof/Config.lean ====
section
/-! DEFINITION. The implementation parameters of spec 00_scope.md R7. Their values live in the
configuration registers (10_state.md R20), since a session supplies them; nothing is left to an
unknown constant. -/

namespace Sys2Proof

/-- CFG_TIMEOUT_POLICY (10_state.md R23). -/
inductive TimeoutPolicy where
  | abortOnTimeout
  | retryOnTimeout
  deriving DecidableEq, Repr

/-- CFG_REPLY_CHECK (10_state.md R24). -/
inductive ReplyCheck where
  | trust
  | verify
  deriving DecidableEq, Repr

/-- The four parameters as a session start offers them; one may be missing, and the session is then
refused (10_state.md R20, 93 U12). -/
structure SessionParams where
  maxRetries    : Option Nat
  pollTimeout   : Option Nat
  timeoutPolicy : Option TimeoutPolicy
  replyCheck    : Option ReplyCheck
  deriving DecidableEq, Repr

end Sys2Proof
end

