-- ==== Sys2Proof/Machine/Errors.lean ====
section
/-! DEFINITION. The error kinds of spec 60_exceptions.md R240 and their codes. -/

namespace Sys2Proof.Machine

/-- The error kinds, in the order of R240. -/
inductive ErrorKind where
  /-- Never raised by the block (R247). -/
  | invalidBaudRate
  /-- Never raised by the block (R247). -/
  | deviceOpenFailed
  /-- R242. -/
  | transportWriteFailed
  /-- R243. -/
  | transportPollFailed
  /-- R244. -/
  | transportReadFailed
  /-- Never raised: it is the result false (R246). -/
  | pingMismatch
  /-- R241. -/
  | invalidRange
  /-- R245. -/
  | replyChecksumMismatch
  deriving DecidableEq, Repr

/-- The code of an error kind (R240); code 0 is no error. -/
def ErrorKind.code : ErrorKind → Nat
  | .invalidBaudRate => 1
  | .deviceOpenFailed => 2
  | .transportWriteFailed => 3
  | .transportPollFailed => 4
  | .transportReadFailed => 5
  | .pingMismatch => 6
  | .invalidRange => 7
  | .replyChecksumMismatch => 8

/-- A status port's number: the code of the error held, 0 for none (R240). -/
def statusCode : Option ErrorKind → Nat
  | none => 0
  | some e => e.code

end Sys2Proof.Machine
end

