-- ==== Sys2Proof/Syntax.lean ====
section
/-! DEFINITION. One constructor per row of spec/opcode_table.json. -/

namespace Sys2Proof

/-- The rows of the opcode table (30_encoding.md R86). The checksum of a request row is no operand:
it is computed (40_framer.md R100). A row of an instruction code that is never emitted (R82) fixes only
the first five bytes; `rest` is whatever follows them. -/
inductive Instr where
  /-- R75, R110, R201. -/
  | ping (id : Byte)
  /-- R76, R111, R202. -/
  | setId (oldId newId : Byte)
  /-- R77, R112, R203: `raw` is any integer, range-checked when it runs. -/
  | move (id : Byte) (raw : Int)
  /-- R78, R113, R204. -/
  | getPosition (id : Byte)
  /-- R79, R114, R205. -/
  | setSpeed (id : Byte) (raw : Int)
  /-- R81, R145: six received bytes. -/
  | pingReply (sentinel0 sentinel1 id len byte4 chk : Byte)
  /-- R81, R146: eight received bytes. -/
  | positionReply (sentinel0 sentinel1 id len byte4 posLo posHi chk : Byte)
  /-- R82, code 0x04. -/
  | regWrite (id len : Byte) (rest : Frame)
  /-- R82, code 0x05. -/
  | action (id len : Byte) (rest : Frame)
  /-- R82, code 0x06. -/
  | factoryReset (id len : Byte) (rest : Frame)
  /-- R82, code 0x08. -/
  | reboot (id len : Byte) (rest : Frame)
  /-- R82, code 0x83. -/
  | syncWrite (id len : Byte) (rest : Frame)
  /-- R82, code 0x92. -/
  | bulkRead (id len : Byte) (rest : Frame)
  deriving DecidableEq, Repr

end Sys2Proof
end

