-- ==== Sys2Proof/Machine/State.lean ====
section
/-! DEFINITION. The state of the block as plain data: every register of spec 10_state.md, and the two
sequences that join the block to the outside (log 3, log 7). -/

namespace Sys2Proof.Machine

/-- The registers that can hold no value (10_state.md R40). -/
inductive Reg where
  | cfgMaxRetries
  | cfgPollTimeout
  | cfgTimeoutPolicy
  | cfgReplyCheck
  | curOp
  | txbuf
  | rxn
  | rxbuf
  | rerr
  | pHdrOk
  | pLenOk
  | pChkOk
  | scanNext
  | scanHi
  | scanFound
  | result
  deriving DecidableEq, Repr

/-- SEQ (R26). -/
inductive Seq where
  | seqIdle
  | seqTx
  | seqRx
  deriving DecidableEq, Repr

/-- RSTATE (R29). -/
inductive RState where
  | idle
  | polling
  | reading
  | success
  | failed
  deriving DecidableEq, Repr

/-- The commands (00_scope.md R16, R17). `op` runs a row of the table: the five requests are R16's ping,
set_id, move_to, get_position and set_speed; every other row given so is refused by its own meaning. -/
inductive Command where
  | op (i : Instr)
  | scan (lo hi : Nat)
  | encodePing (id : Byte)
  | encodeSetId (oldId newId : Byte)
  | encodeMove (id : Byte) (raw : Int)
  | encodeGetPosition (id : Byte)
  | encodeSetSpeed (id : Byte) (raw : Int)
  deriving DecidableEq, Repr

/-- What `TxWrite` answers (00_scope.md R13). -/
inductive WriteAnswer where
  | writeOk (count : Nat)
  | writeErr
  deriving DecidableEq, Repr

/-- What `TxPoll` answers (00_scope.md R13). -/
inductive PollAnswer where
  | ready
  | timeout
  | pollErr
  deriving DecidableEq, Repr

/-- What `TxRead` answers (00_scope.md R13). -/
inductive ReadAnswer where
  | readOk (bytes : Frame)
  | readErr
  deriving DecidableEq, Repr

/-- An answer of the transport, to a request of its kind. -/
inductive Answer where
  | write (a : WriteAnswer)
  | poll (a : PollAnswer)
  | read (a : ReadAnswer)
  deriving DecidableEq, Repr

/-- What the outside gives the block. -/
inductive Input where
  /-- R270. -/
  | reset
  /-- Configuration supplied, transport opened and configured (R20, R272). -/
  | startSession (p : SessionParams)
  /-- The transport is closed (R272, R255). -/
  | closeSession
  | command (c : Command)
  /-- The host's choice between two scan items: go on (R206). -/
  | scanContinue
  /-- The host's choice between two scan items: abandon (R206). -/
  | scanAbandon
  | answer (a : Answer)
  deriving DecidableEq, Repr

/-- A request of the block to the transport (00_scope.md R13). -/
inductive Request where
  | txWrite (bytes : Frame)
  | txPoll (timeout : Nat)
  | txRead (count : Nat)
  deriving DecidableEq, Repr

/-- A result (43_operations.md R209). -/
inductive Result where
  | bool (b : Bool)
  | done
  | position (value : Nat)
  | frame (bytes : Frame)
  | error (e : ErrorKind)
  | found (id : Byte)
  | absent (id : Byte)
  | complete
  | abandoned
  | scanFailed (id : Byte) (e : ErrorKind)
  deriving DecidableEq, Repr

/-- What the block puts out: a request issued, or a result posted to RESULT. -/
inductive Output where
  | request (r : Request)
  | result (r : Result)
  deriving DecidableEq, Repr

/-- The state. A register of type Option holds no value at `none`, which is the spec's own state of it
(10_state.md R40, R41; log 6). -/
structure State where
  cfgMaxRetries    : Option Nat
  cfgPollTimeout   : Option Nat
  cfgTimeoutPolicy : Option TimeoutPolicy
  cfgReplyCheck    : Option ReplyCheck
  sessionOpen      : Bool
  seq              : Seq
  curOp            : Option Instr
  txbuf            : Option Frame
  rxn              : Option Nat
  rxbuf            : Option Frame
  rstate           : RState
  attempt          : Nat
  rerr             : Option ErrorKind
  pHdrOk           : Option Bool
  pLenOk           : Option Bool
  pChkOk           : Option Bool
  scanActive       : Bool
  scanNext         : Option Nat
  scanHi           : Option Nat
  scanFound        : Option (List Byte)
  result           : Option Result
  /-- The model's own: what the outside will give, next first (log 3). -/
  inputs           : List Input
  /-- The model's own: what the block has put out, oldest first (log 7). -/
  outputs          : List Output
  deriving DecidableEq, Repr

/-- What stops the block. -/
inductive Fault where
  /-- A register with no value is read (10_state.md R41); raised by `need`. Safe. -/
  | unwrittenState (r : Reg)
  /-- The outstanding request gets no answer: the block is stuck, not failed (42_poll_controller.md R170,
  70_reset_and_hazards.md R279); raised by `awaitAnswer`. Safe. -/
  | noAnswer (r : Request)
  /-- The block is idle, or between two scan items, and the host gives nothing: it waits (R270); raised
  by `hostStep`. Safe. -/
  | awaitingHost
  deriving DecidableEq, Repr

/-- Why an event has no step. -/
inductive Refusal where
  /-- An arm of exec not yet given its meaning. Safe. -/
  | notModelled (mnemonic : String)
  /-- An instruction code the block never emits and gives no semantics (30_encoding.md R82, 93 U19);
  raised by the six meanings of Machine/Unexercised.lean. Safe. -/
  | neverEmitted (code : Byte)
  /-- A command while SESSION_OPEN is false (10_state.md R25); raised by `guarded` and `opPhase`. Safe. -/
  | noSession
  /-- A command while the block is busy or a scan is active (R277), or a session start then (the model's
  choice, log 22); raised by `guarded`, `opPhase`, `awaitAnswer` and `startSession`. Safe. -/
  | busy
  /-- A configuration outside the legal range (10_state.md R20 to R22); raised by `startSession`. Safe. -/
  | illegalConfig
  /-- A configuration parameter is not supplied (10_state.md R20); raised by `startSession`. Safe. -/
  | missingConfig
  /-- A second session start: the configuration is read-only for the session (R20); raised by
  `startSession`. Safe. -/
  | sessionAlreadyOpen
  /-- A close with no session open (the model's choice, log 23); raised by `closeSession`. Safe. -/
  | sessionNotOpen
  /-- A scan bound above 256 (43_operations.md R206, 93 U13); raised by `execScan`. Safe. -/
  | scanBound (hi : Nat)
  /-- A state and event pair outside the transition table (42_poll_controller.md R178); raised wherever
  an event does not fit. Safe. -/
  | noTransition
  /-- RXBUF is not as long as the operation's reply (R145, R146); raised by `execPing` and
  `execGetPosition`, never in a state that meets Inv (log 19). Safe. -/
  | replyLength
  deriving DecidableEq, Repr

/-- The state at reset (10_state.md R40, 70_reset_and_hazards.md R270). -/
def State.reset : State where
  cfgMaxRetries := none
  cfgPollTimeout := none
  cfgTimeoutPolicy := none
  cfgReplyCheck := none
  sessionOpen := false
  seq := .seqIdle
  curOp := none
  txbuf := none
  rxn := none
  rxbuf := none
  rstate := .idle
  attempt := 0
  rerr := none
  pHdrOk := none
  pLenOk := none
  pChkOk := none
  scanActive := false
  scanNext := none
  scanHi := none
  scanFound := none
  result := none
  inputs := []
  outputs := []

end Sys2Proof.Machine
end

