-- ==== Sys2Proof/Machine/Flags.lean ====
section
/-! DEFINITION. The three status flags of the parser and their latch (spec 41_parser.md R142 to R144). -/

namespace Sys2Proof.Machine

/-- HdrOk (R142). -/
def hdrOk (bs : Frame) : Bool := bs[0]? == some sentinel && bs[1]? == some sentinel

/-- LenOk (R142): `s[3] = len(s) - 4`. -/
def lenOk (bs : Frame) : Bool :=
  match bs[3]? with
  | some len => decide (len.toNat + 4 = bs.length)
  | none => false

/-- The bytes a checksum covers in a received frame: `s[2 .. L-1]` (R144). -/
def coveredBytes (bs : Frame) : Frame := (bs.drop 2).dropLast

/-- ChkOk (R144): `((sum(s[2 .. L-1]) + s[L-1]) & 0xFF) = 0xFF`. -/
def chkOk (bs : Frame) : Bool :=
  match bs.getLast? with
  | some chk => decide ((byteSum (coveredBytes bs) + chk.toNat) % 256 = 255)
  | none => false

/-- The latch of R143. -/
def latch (bs : Frame) (s : State) : State :=
  { s with pHdrOk := some (hdrOk bs), pLenOk := some (lenOk bs), pChkOk := some (chkOk bs) }

end Sys2Proof.Machine
end

