-- ==== Sys2Proof/Machine/Encoders.lean ====
section
/-! DEFINITION. The five request encoders as functions (spec 40_framer.md R110 to R114). They hold no
state (R115) and check no id (R116). -/

namespace Sys2Proof.Machine

/-- `encode_ping(id)` (R110, frame of 30_encoding.md R75). -/
def encodePing (id : Byte) : Frame := frame id 0x01 []

/-- `encode_set_id(old_id, new_id)` (R111, frame of R76). -/
def encodeSetId (oldId newId : Byte) : Frame := frame oldId 0x03 [0x03, newId]

/-- The move frame of R77, of a raw value already checked. -/
def moveFrame (id : Byte) (raw : Int) : Frame := frame id 0x03 [0x1E, rawLo raw, rawHi raw]

/-- The set-speed frame of R79, of a raw value already checked. -/
def setSpeedFrame (id : Byte) (raw : Int) : Frame := frame id 0x03 [0x20, rawLo raw, rawHi raw]

/-- `encode_move(id, raw)` (R112): a frame, or InvalidRange and no frame. -/
def encodeMove (id : Byte) (raw : Int) : Except ErrorKind Frame :=
  if validRaw raw then .ok (moveFrame id raw) else .error .invalidRange

/-- `encode_get_position(id)` (R113, frame of R78). -/
def encodeGetPosition (id : Byte) : Frame := frame id 0x02 [0x24, 0x02]

/-- `encode_set_speed(id, raw)` (R114): a frame, or InvalidRange and no frame. -/
def encodeSetSpeed (id : Byte) (raw : Int) : Except ErrorKind Frame :=
  if validRaw raw then .ok (setSpeedFrame id raw) else .error .invalidRange

end Sys2Proof.Machine
end

