-- ==== Sys2Proof/Machine/Ops.lean ====
section
/-! DEFINITION. The shared operations over the registers: reading one that may hold no value, issuing a
request, posting a result, ending an operation, raising an error (spec 60_exceptions.md R250). -/

namespace Sys2Proof.Machine

/-- The outcome of a step of the block. -/
abbrev Out := Host.Outcome State Fault Refusal

/-- A register is read: UnwrittenState where it holds no value (10_state.md R41). -/
def need {α : Type} (r : Reg) (v : Option α) (k : α → Out) : Out :=
  match v with
  | some a => k a
  | none => .fault (.unwrittenState r)

/-- A request goes to the transport (00_scope.md R13). -/
def State.issue (q : Request) (s : State) : State :=
  { s with outputs := s.outputs ++ [.request q] }

/-- `RESULT <- r` (10_state.md R37). -/
def State.post (r : Result) (s : State) : State :=
  { s with result := some r, outputs := s.outputs ++ [.result r] }

/-- The per-operation registers lose their values (10_state.md R42). -/
def State.endOperation (s : State) : State :=
  { s with curOp := none, txbuf := none, rxn := none, rxbuf := none, rerr := none,
           pHdrOk := none, pLenOk := none, pChkOk := none,
           seq := .seqIdle, rstate := .idle, attempt := 0 }

/-- A scan ends: SCAN_ACTIVE is false and the other scan registers hold no value (10_state.md R36). -/
def State.endScan (s : State) : State :=
  { s with scanActive := false, scanNext := none, scanHi := none, scanFound := none }

/-- An operation ends with a result (10_state.md R37, R42). -/
def finishOp (r : Result) (s : State) : Out := .next (s.endOperation.post r)

/-- The id a scan is at (43_operations.md R206: `id <- SCAN_NEXT`, below 256). -/
def scanId (n : Nat) : Byte := BitVec.ofNat 8 n

/-- ERROR ENTRY (60_exceptions.md R250): RESULT takes the error, R42 is applied, control is the host's.
Inside a scan the result is Failed(id, E) and the scan ends (43_operations.md R206). Nothing is saved and
there is no return from it (R251). -/
def raise (e : ErrorKind) (s : State) : Out :=
  if s.scanActive then
    need .scanNext s.scanNext fun n => .next (s.endOperation.endScan.post (.scanFailed (scanId n) e))
  else finishOp (.error e) s

/-- The guard every command passes (43_operations.md): session open, block idle, no scan active. -/
def guarded (s : State) (k : State → Out) : Out :=
  if !s.sessionOpen then .refused .noSession
  else if s.seq ≠ .seqIdle ∨ s.scanActive then .refused .busy
  else k s

/-- An operation starts to transmit (R200): CUR_OP and TXBUF are written, SEQ is SeqTx. -/
def State.transmit (i : Instr) (f : Frame) (s : State) : State :=
  { s with curOp := some i, seq := .seqTx, txbuf := some f }

/-- A request is outstanding: the next input is its answer. A command here has no step (R277),
nor has a session start (log 22); no input at all leaves the block stuck (R170, R279). -/
def awaitAnswer (q : Request) (s : State) (k : Answer → State → Out) : Out :=
  match s.inputs with
  | [] => .fault (.noAnswer q)
  | .answer a :: rest => k a { s with inputs := rest }
  | .command _ :: _ => .refused .busy
  | .startSession _ :: _ => .refused .busy
  | .reset :: _ => .refused .noTransition
  | .closeSession :: _ => .refused .noTransition
  | .scanContinue :: _ => .refused .noTransition
  | .scanAbandon :: _ => .refused .noTransition

/-- The write half of an operation (R200): one TxWrite of the whole of TXBUF; any answer but the exact
count raises TransportWriteFailed. -/
def txPhase (k : State → Out) (s : State) : Out :=
  need .txbuf s.txbuf fun f =>
    awaitAnswer (.txWrite f) s fun a s1 =>
      match a with
      | .write (.writeOk c) =>
        if c = f.length then k (s1.issue (.txWrite f)) else raise .transportWriteFailed (s1.issue (.txWrite f))
      | .write .writeErr => raise .transportWriteFailed (s1.issue (.txWrite f))
      | .poll _ => .refused .noTransition
      | .read _ => .refused .noTransition

/-- Where an operation stands (10_state.md R32). Idle, it starts under the guard; busy with this very
operation, it goes on; busy with another, there is no step (R277). -/
def opPhase (i : Instr) (start tx rx : State → Out) (s : State) : Out :=
  match s.seq with
  | .seqIdle => guarded s start
  | .seqTx => if s.curOp = some i then tx s else .refused .busy
  | .seqRx => if s.curOp = some i then rx s else .refused .busy

end Sys2Proof.Machine
end

