-- ==== Sys2Proof/Machine/Poll.lean ====
section
/-! DEFINITION. The polling-timeout controller (spec 42_poll_controller.md R171 to R178). Each request
with its answer is one step (R170). -/

namespace Sys2Proof.Machine

/-- Invocation, Idle to Polling, with a full budget (R171). -/
def State.invokeRead (n : Nat) (s : State) : State :=
  { s with rxn := some n, attempt := 0, rerr := none, rstate := .polling }

/-- The read fails: RERR takes the reason (R174 to R177). -/
def State.failRead (e : ErrorKind) (s : State) : State :=
  { s with rerr := some e, rstate := .failed }

/-- The attempt is counted just before its poll, and the poll is issued (R172, R173). -/
def State.countPoll (timeout : Nat) (s : State) : State :=
  State.issue (.txPoll timeout) { s with attempt := s.attempt + 1 }

/-- The read succeeds: RXBUF takes the bytes and the parser latches its flags (R176, 41_parser.md R143). -/
def State.takeReply (bs : Frame) (s : State) : State :=
  latch bs { s with rxbuf := some bs, rstate := .success }

/-- The answer to a poll: R174 for Timeout, R175 for PollErr, R176 for Ready. -/
def pollAnswer (maxRetries : Nat) (a : PollAnswer) (s : State) : Out :=
  match a with
  | .pollErr => .next (s.failRead .transportPollFailed)
  | .ready => .next { s with rstate := .reading }
  | .timeout =>
    need .cfgTimeoutPolicy s.cfgTimeoutPolicy fun
      | .abortOnTimeout => .next (s.failRead .transportReadFailed)
      | .retryOnTimeout =>
        if s.attempt < maxRetries then .next s else .next (s.failRead .transportReadFailed)

/-- One attempt in Polling (R172, R173), admitted only while budget is left (R178). -/
def pollStep (s : State) : Out :=
  need .cfgMaxRetries s.cfgMaxRetries fun m =>
    need .cfgPollTimeout s.cfgPollTimeout fun t =>
      if s.attempt < m then
        awaitAnswer (.txPoll t) s fun a s1 =>
          match a with
          | .poll p => pollAnswer m p (s1.countPoll t)
          | .write _ => .refused .noTransition
          | .read _ => .refused .noTransition
      else .refused .noTransition

/-- The answer to the one TxRead of Reading (R176): success on exactly RXN bytes, failure otherwise. -/
def readAnswer (a : ReadAnswer) (s : State) : Out :=
  need .rxn s.rxn fun n =>
    match a with
    | .readOk bs =>
      if bs.length = n then .next ((s.issue (.txRead n)).takeReply bs)
      else .next ((s.issue (.txRead n)).failRead .transportReadFailed)
    | .readErr => .next ((s.issue (.txRead n)).failRead .transportReadFailed)

/-- The read in Reading (R176). -/
def readStep (s : State) : Out :=
  need .rxn s.rxn fun n =>
    awaitAnswer (.txRead n) s fun a s1 =>
      match a with
      | .read r => readAnswer r s1
      | .write _ => .refused .noTransition
      | .poll _ => .refused .noTransition

/-- A reply frame arrives (R81): the answer to the outstanding TxRead in Reading; in any other state
there is no step (R178). -/
def receiveReply (bs : Frame) (s : State) : Out :=
  if s.seq = .seqRx ∧ s.rstate = .reading then readAnswer (.readOk bs) s else .refused .noTransition

end Sys2Proof.Machine
end

