-- ==== Sys2Proof/Machine/Parser.lean ====
section
/-! DEFINITION. The reply parser (spec 41_parser.md) and the meanings of the two reply rows. -/

namespace Sys2Proof.Machine

/-- What the generic decoder gives (R140). -/
structure Decoded where
  id     : Byte
  lenf   : Byte
  instr  : Byte
  params : Frame
  chk    : Byte
  deriving DecidableEq, Repr

/-- `Decode(s)` (R140): the fields by physical position, INSTR of any value passed through (30_encoding.md
R82); no value on fewer than six bytes (93 U14). -/
def decodeFields : Frame → Option Decoded
  | _ :: _ :: id :: lenf :: code :: rest =>
    match rest.getLast? with
    | some chk => some ⟨id, lenf, code, rest.dropLast, chk⟩
    | none => none
  | _ => none

/-- `Command(s)` (R141): INSTR where there is no parameter, else the first parameter. -/
def commandByte (bs : Frame) : Option Byte :=
  (decodeFields bs).map fun d => d.params.headD d.instr

/-- PingMatch (R145), on a six-byte reply. -/
def pingMatch (bs : Frame) (id : Byte) : Option Bool :=
  match bs with
  | [_, _, replyId, _, _, _] => some (replyId == id)
  | _ => none

/-- Position (R146), on an eight-byte reply: unsigned, unchecked. -/
def position (bs : Frame) : Option Nat :=
  match bs with
  | [_, _, _, _, _, lo, hi, _] => some (le16 lo hi)
  | _ => none

/-- ApplyReplyCheck (R152), before a result is formed. -/
def applyReplyCheck (k : State → Out) (s : State) : Out :=
  need .cfgReplyCheck s.cfgReplyCheck fun
    | .trust => k s
    | .verify => need .pChkOk s.pChkOk fun ok => if ok then k s else raise .replyChecksumMismatch s

/-- The read half of an operation (43_operations.md R201, R204): ReadExact(n), then the reply check, then
the result; a failed read raises RERR. -/
def rxPhase (n : Nat) (finish : Frame → State → Out) (s : State) : Out :=
  match s.rstate with
  | .idle => .next (s.invokeRead n)
  | .polling => pollStep s
  | .reading => readStep s
  | .success => need .rxbuf s.rxbuf fun bs => applyReplyCheck (finish bs) s
  | .failed => need .rerr s.rerr fun e => raise e s

/-- ping_reply (R81, R145): six bytes answer the read. -/
def execPingReply (b0 b1 b2 b3 b4 b5 : Byte) (s : State) : Out :=
  receiveReply [b0, b1, b2, b3, b4, b5] s

/-- position_reply (R81, R146): eight bytes answer the read. -/
def execPositionReply (b0 b1 b2 b3 b4 b5 b6 b7 : Byte) (s : State) : Out :=
  receiveReply [b0, b1, b2, b3, b4, b5, b6, b7] s

end Sys2Proof.Machine
end

