-- ==== Sys2Proof/Machine/Scan.lean ====
section
/-! DEFINITION. The scan iterator (spec 43_operations.md R206, 10_state.md R36). Between two items the
block is idle with SCAN_ACTIVE true, and the host's choice is its next event (log 9). -/

namespace Sys2Proof.Machine

/-- A ping starts (R201), with its guard on SEQ left to the caller. -/
def startPing (id : Byte) (s : State) : Out := .next (s.transmit (.ping id) (encodePing id))

/-- The loop test: ping SCAN_NEXT, or Complete. -/
def scanHead (s : State) : Out :=
  need .scanNext s.scanNext fun n =>
    need .scanHi s.scanHi fun hi =>
      if n < hi then startPing (scanId n) s else .next (s.endScan.post .complete)

/-- A scan's registers take their first values. -/
def State.beginScan (lo hi : Nat) (s : State) : State :=
  { s with scanActive := true, scanNext := some lo, scanHi := some hi, scanFound := some [] }

/-- `scan([lo, hi))`: a bound above 256 is refused (93 U13). -/
def execScan (lo hi : Nat) (s : State) : Out :=
  guarded s fun s1 =>
    if 256 < hi then .refused (.scanBound hi) else scanHead (s1.beginScan lo hi)

/-- The registers after an item: SCAN_NEXT moves on, and SCAN_FOUND is `found`. -/
def State.nextItem (n : Nat) (found : Option (List Byte)) (s : State) : State :=
  { s with scanNext := some (n + 1), scanFound := found }

/-- A ping of a scan answers: the item is posted, once (10_state.md R37, log 10). Only a found id reads
SCAN_FOUND, to join it (R206). -/
def scanItem (b : Bool) (s : State) : Out :=
  need .scanNext s.scanNext fun n =>
    if b then
      need .scanFound s.scanFound fun f =>
        .next ((s.endOperation.nextItem n (some (f ++ [scanId n]))).post (.found (scanId n)))
    else .next ((s.endOperation.nextItem n s.scanFound).post (.absent (scanId n)))

/-- A ping answers (R201): its own result, or the scan's item. -/
def finishPing (b : Bool) (s : State) : Out :=
  if s.scanActive then scanItem b s else finishOp (.bool b) s

/-- The host goes on after an item (R206). -/
def scanContinue (s : State) : Out := if s.scanActive then scanHead s else .refused .noTransition

/-- The host abandons the scan after an item (R206). -/
def scanAbandon (s : State) : Out :=
  if s.scanActive then .next (s.endScan.post .abandoned) else .refused .noTransition

end Sys2Proof.Machine
end

