-- ==== Sys2Proof/Machine/Operations.lean ====
section
/-! DEFINITION. The meanings of the five request rows (spec 43_operations.md R201 to R205). A meaning is
the next step of its operation, from wherever the operation stands (log 5). -/

namespace Sys2Proof.Machine

/-- A validated write starts, or InvalidRange is raised before any request (R203, R205). -/
def startChecked (i : Instr) (r : Except ErrorKind Frame) (s : State) : Out :=
  match r with
  | .ok f => .next (s.transmit i f)
  | .error e => raise e { s with curOp := some i }

/-- The write is answered and a reply is read next: SEQ is SeqRx (R201, R204). -/
def toReply (s : State) : Out := .next { s with seq := .seqRx }

/-- A write-only operation never reads a reply (R208). -/
def noReply (_ : State) : Out := .refused .noTransition

/-- ping (R201). -/
def execPing (id : Byte) (s : State) : Out :=
  opPhase (.ping id) (startPing id) (txPhase toReply)
    (rxPhase 6 fun bs s1 =>
      match pingMatch bs id with
      | some b => finishPing b s1
      | none => .refused .replyLength) s

/-- set_id (R202). -/
def execSetId (oldId newId : Byte) (s : State) : Out :=
  opPhase (.setId oldId newId) (startChecked (.setId oldId newId) (.ok (encodeSetId oldId newId)))
    (txPhase (finishOp .done)) noReply s

/-- move_to (R203). -/
def execMove (id : Byte) (raw : Int) (s : State) : Out :=
  opPhase (.move id raw) (startChecked (.move id raw) (encodeMove id raw))
    (txPhase (finishOp .done)) noReply s

/-- get_position (R204). -/
def execGetPosition (id : Byte) (s : State) : Out :=
  opPhase (.getPosition id) (startChecked (.getPosition id) (.ok (encodeGetPosition id))) (txPhase toReply)
    (rxPhase 8 fun bs s1 =>
      match position bs with
      | some v => finishOp (.position v) s1
      | none => .refused .replyLength) s

/-- set_speed (R205). -/
def execSetSpeed (id : Byte) (raw : Int) (s : State) : Out :=
  opPhase (.setSpeed id raw) (startChecked (.setSpeed id raw) (encodeSetSpeed id raw))
    (txPhase (finishOp .done)) noReply s

end Sys2Proof.Machine
end

