-- ==== Sys2Proof/Machine/Unexercised.lean ====
section
/-! DEFINITION. The six instruction codes the block never emits (spec 30_encoding.md R82): "No command of
00_scope.md rule R16 produces them, and the block gives them no semantics"; 93 U19: "refuse: never
emitted" (log 15). Bytes with such a code that arrive as a reply are a reply row (R83). -/

namespace Sys2Proof.Machine

/-- REG_WRITE, 0x04. -/
def execRegWrite (_id _len : Byte) (_rest : Frame) (_s : State) : Out := .refused (.neverEmitted 0x04)

/-- ACTION, 0x05. -/
def execAction (_id _len : Byte) (_rest : Frame) (_s : State) : Out := .refused (.neverEmitted 0x05)

/-- FACTORY_RESET, 0x06. -/
def execFactoryReset (_id _len : Byte) (_rest : Frame) (_s : State) : Out := .refused (.neverEmitted 0x06)

/-- REBOOT, 0x08. -/
def execReboot (_id _len : Byte) (_rest : Frame) (_s : State) : Out := .refused (.neverEmitted 0x08)

/-- SYNC_WRITE, 0x83. -/
def execSyncWrite (_id _len : Byte) (_rest : Frame) (_s : State) : Out := .refused (.neverEmitted 0x83)

/-- BULK_READ, 0x92. -/
def execBulkRead (_id _len : Byte) (_rest : Frame) (_s : State) : Out := .refused (.neverEmitted 0x92)

end Sys2Proof.Machine
end

