-- ==== Sys2Proof/Machine/Dispatch.lean ====
section
/-! DEFINITION. One arm per row of the opcode table. -/

namespace Sys2Proof.Machine

def exec (i : Instr) (s : State) : Host.Outcome State Fault Refusal :=
  match i with
  | .ping id => Sys2Proof.Machine.execPing id s
  | .setId oldId newId => Sys2Proof.Machine.execSetId oldId newId s
  | .move id raw => Sys2Proof.Machine.execMove id raw s
  | .getPosition id => Sys2Proof.Machine.execGetPosition id s
  | .setSpeed id raw => Sys2Proof.Machine.execSetSpeed id raw s
  | .pingReply b0 b1 b2 b3 b4 b5 => Sys2Proof.Machine.execPingReply b0 b1 b2 b3 b4 b5 s
  | .positionReply b0 b1 b2 b3 b4 b5 b6 b7 => Sys2Proof.Machine.execPositionReply b0 b1 b2 b3 b4 b5 b6 b7 s
  | .regWrite id len rest => Sys2Proof.Machine.execRegWrite id len rest s
  | .action id len rest => Sys2Proof.Machine.execAction id len rest s
  | .factoryReset id len rest => Sys2Proof.Machine.execFactoryReset id len rest s
  | .reboot id len rest => Sys2Proof.Machine.execReboot id len rest s
  | .syncWrite id len rest => Sys2Proof.Machine.execSyncWrite id len rest s
  | .bulkRead id len rest => Sys2Proof.Machine.execBulkRead id len rest s

end Sys2Proof.Machine
end

