-- ==== Sys2Proof/WellFormed.lean ====
section
/-! DEFINITION. Which terms of Instr stand for a frame the table describes whole. -/

namespace Sys2Proof

/-- The bytes after INSTR of a complete frame: LEN = N + 2 parameters and checksum follow, and the last
byte is the checksum (30_encoding.md R70, R71). -/
def tailWf (id len code : Byte) (rest : Frame) : Bool :=
  decide (rest.length + 1 = len.toNat) &&
    decide (rest.getLast? = some (Machine.checksum (id :: len :: code :: rest.dropLast)))

/-- A move or set-speed operand passes the range check (40_framer.md R101); a frame of a code that is
never emitted is complete; every other term is well formed, since ids are unchecked (R116) and a reply
may be any bytes (30_encoding.md R83). -/
def Instr.wf : Instr → Bool
  | .ping _ => true
  | .setId _ _ => true
  | .move _ raw => Machine.validRaw raw
  | .getPosition _ => true
  | .setSpeed _ raw => Machine.validRaw raw
  | .pingReply _ _ _ _ _ _ => true
  | .positionReply _ _ _ _ _ _ _ _ => true
  | .regWrite id len rest => tailWf id len 0x04 rest
  | .action id len rest => tailWf id len 0x05 rest
  | .factoryReset id len rest => tailWf id len 0x06 rest
  | .reboot id len rest => tailWf id len 0x08 rest
  | .syncWrite id len rest => tailWf id len 0x83 rest
  | .bulkRead id len rest => tailWf id len 0x92 rest

end Sys2Proof
end

