-- ==== Sys2Proof/Decode.lean ====
section
/-! DEFINITION. Decoding the rows of spec/opcode_table.json, total on any bytes and rejecting by name,
and the encoder beside it (30_encoding.md R70 to R86). A frame on the way out is a request row or a code
of R82; a frame on the way in is a reply row, told by its length alone (R81, mask 0). -/

namespace Sys2Proof

/-- Why a byte sequence is no row. -/
inductive DecodeError where
  /-- Fewer than five bytes: no INSTR byte. -/
  | tooShort
  /-- Bytes 0 and 1 are not the sentinels. -/
  | badHeader
  /-- LEN or the number of bytes is not the row's (R80). -/
  | badLength
  /-- INSTR is no code of R73. -/
  | unknownInstr (code : Byte)
  /-- P0 is no command address of the row's INSTR (R74). -/
  | unknownAddress (addr : Byte)
  /-- P1 of a READ of PRESENT_POSITION is not 2 (R78). -/
  | badReadCount (count : Byte)
  /-- A received sequence of neither reply length (R81). -/
  | noReplyRow (length : Nat)
  deriving DecidableEq, Repr

/-- The ping row (R75), after INSTR. -/
def decodePingTail (id len : Byte) : Frame → Except DecodeError Instr
  | [_] => if len = 0x02 then .ok (.ping id) else .error .badLength
  | _ => .error .badLength

/-- The READ row (R78), after INSTR. -/
def decodeReadTail (id len : Byte) : Frame → Except DecodeError Instr
  | [p0, p1, _] =>
    if len ≠ 0x04 then .error .badLength
    else if p0 ≠ 0x24 then .error (.unknownAddress p0)
    else if p1 ≠ 0x02 then .error (.badReadCount p1)
    else .ok (.getPosition id)
  | _ => .error .badLength

/-- The WRITE rows (R76, R77, R79), after INSTR. -/
def decodeWriteTail (id len : Byte) : Frame → Except DecodeError Instr
  | [p0, p1, _] =>
    if len ≠ 0x04 then .error .badLength
    else if p0 = 0x03 then .ok (.setId id p1)
    else .error (.unknownAddress p0)
  | [p0, p1, p2, _] =>
    if len ≠ 0x05 then .error .badLength
    else if p0 = 0x1E then .ok (.move id (Machine.le16 p1 p2))
    else if p0 = 0x20 then .ok (.setSpeed id (Machine.le16 p1 p2))
    else .error (.unknownAddress p0)
  | _ => .error .badLength

/-- By the INSTR byte (R73). -/
def decodeBody (id len code : Byte) (rest : Frame) : Except DecodeError Instr :=
  if code = 0x01 then decodePingTail id len rest
  else if code = 0x02 then decodeReadTail id len rest
  else if code = 0x03 then decodeWriteTail id len rest
  else if code = 0x04 then .ok (.regWrite id len rest)
  else if code = 0x05 then .ok (.action id len rest)
  else if code = 0x06 then .ok (.factoryReset id len rest)
  else if code = 0x08 then .ok (.reboot id len rest)
  else if code = 0x83 then .ok (.syncWrite id len rest)
  else if code = 0x92 then .ok (.bulkRead id len rest)
  else .error (.unknownInstr code)

/-- A request frame (R86). The row is told by what the table's mask covers; the checksum byte and the
range of a raw operand are not examined here (R140, log 2): `isEmitted` does. -/
def decodeRequest : Frame → Except DecodeError Instr
  | h0 :: h1 :: id :: len :: code :: rest =>
    if h0 = Machine.sentinel ∧ h1 = Machine.sentinel then decodeBody id len code rest
    else .error .badHeader
  | _ => .error .tooShort

/-- A received frame (R81): the length decides, no byte is checked (R83, log 17). -/
def decodeReply : Frame → Except DecodeError Instr
  | [b0, b1, b2, b3, b4, b5] => .ok (.pingReply b0 b1 b2 b3 b4 b5)
  | [b0, b1, b2, b3, b4, b5, b6, b7] => .ok (.positionReply b0 b1 b2 b3 b4 b5 b6 b7)
  | bs => .error (.noReplyRow bs.length)

/-- A row of the table from bytes alone, the direction unknown: the rows with a mask first. -/
def decode (bs : Frame) : Except DecodeError Instr :=
  match decodeRequest bs with
  | .ok i => .ok i
  | .error _ => decodeReply bs

/-- The first five bytes of a frame with an instruction code that is never emitted, and what follows. -/
def codeFrame (id len code : Byte) (rest : Frame) : Frame :=
  Machine.sentinel :: Machine.sentinel :: id :: len :: code :: rest

/-- The bytes of an instruction (R70, R75 to R81). -/
def encode : Instr → Frame
  | .ping id => Machine.encodePing id
  | .setId oldId newId => Machine.encodeSetId oldId newId
  | .move id raw => Machine.moveFrame id raw
  | .getPosition id => Machine.encodeGetPosition id
  | .setSpeed id raw => Machine.setSpeedFrame id raw
  | .pingReply b0 b1 b2 b3 b4 b5 => [b0, b1, b2, b3, b4, b5]
  | .positionReply b0 b1 b2 b3 b4 b5 b6 b7 => [b0, b1, b2, b3, b4, b5, b6, b7]
  | .regWrite id len rest => codeFrame id len 0x04 rest
  | .action id len rest => codeFrame id len 0x05 rest
  | .factoryReset id len rest => codeFrame id len 0x06 rest
  | .reboot id len rest => codeFrame id len 0x08 rest
  | .syncWrite id len rest => codeFrame id len 0x83 rest
  | .bulkRead id len rest => codeFrame id len 0x92 rest

/-- The row is a reply row: its frame is received, never sent. -/
def Instr.isReply : Instr → Bool
  | .pingReply _ _ _ _ _ _ => true
  | .positionReply _ _ _ _ _ _ _ _ => true
  | _ => false

/-- The row is one of the five requests the block emits (R80). -/
def Instr.isRequest : Instr → Bool
  | .ping _ => true
  | .setId _ _ => true
  | .move _ _ => true
  | .getPosition _ => true
  | .setSpeed _ _ => true
  | _ => false

/-- The reply length a reading operation expects (10_state.md R28); write-only rows have none. -/
def Instr.replyLength : Instr → Option Nat
  | .ping _ => some 6
  | .getPosition _ => some 8
  | _ => none

/-- A frame this block emits (R86): one of the five rows, with a valid operand, and every byte the one
the encoder puts there, the checksum among them. -/
def isEmitted (bs : Frame) : Bool :=
  match decodeRequest bs with
  | .ok i => i.isRequest && i.wf && decide (encode i = bs)
  | .error _ => false

/-- The `n` bytes of a table word, byte 0 the most significant (R86, log 1). -/
def tableBytes : Nat → Nat → Frame
  | 0, _ => []
  | n + 1, w => BitVec.ofNat 8 (w / 256 ^ n) :: tableBytes n w

/-- A frame as the table's one number (R86). -/
def tableWord : Frame → Nat
  | [] => 0
  | b :: bs => b.toNat * 256 ^ bs.length + tableWord bs

/-- The row of a table word. -/
def decodeTableWord (nbits w : Nat) : Option Instr :=
  (decode (tableBytes (nbits / 8) w)).toOption

end Sys2Proof
end

