-- ==== Sys2Proof/Machine/Framer.lean ====
section
/-! DEFINITION. The encoders as commands of their own (spec 00_scope.md R17, 40_framer.md R115): only
RESULT is written, and the transport is not touched. They pass the guard of every command (log 8). -/

namespace Sys2Proof.Machine

/-- A frame or an error goes to RESULT (R115). -/
def postFrame (r : Except ErrorKind Frame) (s : State) : Out :=
  match r with
  | .ok f => .next (s.post (.frame f))
  | .error e => .next (s.post (.error e))

/-- `encode_ping` (R110). -/
def execEncodePing (id : Byte) (s : State) : Out := guarded s (postFrame (.ok (encodePing id)))

/-- `encode_set_id` (R111). -/
def execEncodeSetId (oldId newId : Byte) (s : State) : Out :=
  guarded s (postFrame (.ok (encodeSetId oldId newId)))

/-- `encode_move` (R112). -/
def execEncodeMove (id : Byte) (raw : Int) (s : State) : Out := guarded s (postFrame (encodeMove id raw))

/-- `encode_get_position` (R113). -/
def execEncodeGetPosition (id : Byte) (s : State) : Out :=
  guarded s (postFrame (.ok (encodeGetPosition id)))

/-- `encode_set_speed` (R114). -/
def execEncodeSetSpeed (id : Byte) (raw : Int) (s : State) : Out :=
  guarded s (postFrame (encodeSetSpeed id raw))

end Sys2Proof.Machine
end

