-- ==== Sys2Proof/Machine/Session.lean ====
section
/-! DEFINITION. The events that are no row of the table: reset, session start and end, scan and encoder
commands, scan choices (spec 70_reset_and_hazards.md R270 to R272, 10_state.md R20 to R25). -/

namespace Sys2Proof.Machine

/-- Reset (R270, R271): nothing survives; what the outside has yet to give is no state of the block and
stays (log 13). -/
def State.resetBlock (s : State) : State :=
  { State.reset with inputs := s.inputs }

/-- A session opens: the session-start state of 10_state.md R40, RESULT without a value among it (log 11),
with the configuration registers written and SESSION_OPEN true (R20, R272). -/
def State.openSession (m t : Nat) (p : TimeoutPolicy) (c : ReplyCheck) (s : State) : State :=
  { State.reset with cfgMaxRetries := some m, cfgPollTimeout := some t, cfgTimeoutPolicy := some p,
                     cfgReplyCheck := some c, sessionOpen := true, inputs := s.inputs, outputs := s.outputs }

/-- Session start (R272) as one event (log 11): all four parameters, both counts at least 1 (R20 to R24).
While an operation or a scan is unfinished the spec gives a start no rule, and the model refuses it (log 22). -/
def startSession (p : SessionParams) (s : State) : Out :=
  if s.sessionOpen then .refused .sessionAlreadyOpen
  else if s.seq ≠ .seqIdle ∨ s.scanActive then .refused .busy
  else
    match p with
    | ⟨some m, some t, some policy, some check⟩ =>
      if 1 ≤ m ∧ 1 ≤ t then .next (s.openSession m t policy check) else .refused .illegalConfig
    | _ => .refused .missingConfig

/-- Session end (R272), also in the middle of an operation (60_exceptions.md R255, log 12). A close with no
session open is refused by the model's choice (log 23). -/
def closeSession (s : State) : Out :=
  if s.sessionOpen then .next { s with sessionOpen := false } else .refused .sessionNotOpen

/-- A command that is no row of the table; the rows go through exec. -/
def otherCommand (c : Command) (s : State) : Out :=
  match c with
  | .op _ => .refused .noTransition
  | .scan lo hi => execScan lo hi s
  | .encodePing id => execEncodePing id s
  | .encodeSetId oldId newId => execEncodeSetId oldId newId s
  | .encodeMove id raw => execEncodeMove id raw s
  | .encodeGetPosition id => execEncodeGetPosition id s
  | .encodeSetSpeed id raw => execEncodeSetSpeed id raw s

/-- An input to an idle block. -/
def idleInput (x : Input) (s : State) : Out :=
  match x with
  | .reset => .next s.resetBlock
  | .closeSession => closeSession s
  | .startSession p => startSession p s
  | .command c => otherCommand c s
  | .scanContinue => scanContinue s
  | .scanAbandon => scanAbandon s
  | .answer _ => .refused .noTransition

/-- An input to a busy block with no operation to go on with: only reset and close have a step. -/
def busyInput (x : Input) (s : State) : Out :=
  match x with
  | .reset => .next s.resetBlock
  | .closeSession => closeSession s
  | _ => need .curOp s.curOp fun _ => .refused .noTransition

/-- The step that runs no row. -/
def hostStep (s : State) : Out :=
  match s.inputs with
  | [] => if s.seq = .seqIdle then .fault .awaitingHost else need .curOp s.curOp fun _ => .refused .noTransition
  | x :: rest =>
    if s.seq = .seqIdle then idleInput x { s with inputs := rest } else busyInput x { s with inputs := rest }

end Sys2Proof.Machine
end

