-- ==== Sys2Proof/Machine/Fetch.lean ====
section
/-! DEFINITION. Which row of the table the next step runs. The block has no program counter (spec
10_state.md R32): an idle block takes a command, a busy one goes on with CUR_OP, and in Reading the reply
that arrives is decoded. -/

namespace Sys2Proof.Machine

/-- Reset and close come before anything else (R270, R255). -/
def preempts : List Input → Bool
  | .reset :: _ => true
  | .closeSession :: _ => true
  | _ => false

/-- In Reading, the bytes the transport returns, where they have a reply row (R81), and the state without
that input. -/
def fetchReply (s : State) : Option (Instr × State) :=
  match s.inputs with
  | .answer (.read (.readOk bs)) :: rest =>
    if s.seq = .seqRx ∧ s.rstate = .reading then
      (decodeReply bs).toOption.map fun i => (i, { s with inputs := rest })
    else none
  | _ => none

/-- In SeqIdle, a command that runs a row, and the state without that input. -/
def fetchCommand (s : State) : Option (Instr × State) :=
  match s.inputs with
  | .command (.op i) :: rest => some (i, { s with inputs := rest })
  | _ => none

/-- Busy, the operation in progress goes on (R32). A reply row is no operation and never stands in CUR_OP. -/
def fetchCurOp (s : State) : Option (Instr × State) :=
  match s.curOp with
  | some i => if i.isReply then none else some (i, s)
  | none => none

/-- The row the next step runs and the state it runs in; none where the step runs no row. -/
def fetch (s : State) : Option (Instr × State) :=
  if preempts s.inputs then none
  else
    match s.seq with
    | .seqIdle => fetchCommand s
    | _ =>
      match fetchReply s with
      | some r => some r
      | none => fetchCurOp s

/-- A session for a word placed from outside (log 16): what is missing of the configuration is filled in,
and the session opens with no operation and no scan in progress. -/
def State.withSession (s : State) : State :=
  s.openSession (s.cfgMaxRetries.getD 3) (s.cfgPollTimeout.getD 50)
    (s.cfgTimeoutPolicy.getD .retryOnTimeout) (s.cfgReplyCheck.getD .trust)

/-- A state that admits a command; unchanged where the guard holds already. -/
def State.readied (s : State) : State :=
  if s.sessionOpen ∧ s.seq = .seqIdle ∧ s.scanActive = false then s
  else s.withSession

/-- A command is given next. -/
def State.withCommand (i : Instr) (s : State) : State :=
  { s.readied with inputs := .command (.op i) :: s.inputs }

/-- The reading operation a placed reply answers. -/
def replyOp (bs : Frame) : Instr :=
  if bs.length = 6 then .ping (bs.getD 2 0) else .getPosition (bs.getD 2 0)

/-- A state with a read of `n` bytes outstanding; unchanged where that holds already. -/
def State.readingFor (bs : Frame) (s : State) : State :=
  if s.seq = .seqRx ∧ s.rstate = .reading ∧ s.rxn = some bs.length then s
  else
    { s.readied with
        curOp := some (replyOp bs), txbuf := some (encode (replyOp bs)), seq := .seqRx,
        rxn := some bs.length, rstate := .reading, attempt := 1 }

/-- A reply arrives next. -/
def State.withReply (bs : Frame) (s : State) : State :=
  { s.readingFor bs with inputs := .answer (.read (.readOk bs)) :: s.inputs }

/-- The placing of a table word (log 16): a reply row as the answer to a read, any other row as a command;
a word of no row changes nothing. -/
def placeWord (s : State) (nbits w : Nat) : State :=
  match decodeTableWord nbits w with
  | some i => if i.isReply then s.withReply (tableBytes (nbits / 8) w) else s.withCommand i
  | none => s

end Sys2Proof.Machine
end

