-- ==== Sys2Proof/Safety.lean ====
section
/-! DEFINITION. What counts as a sound state of the block, in the terms the statements use. -/

namespace Sys2Proof.Machine

/-- `k` steps of the block, through the host's machine. -/
def runBlock (k : Nat) (s : State) : Out := Host.Core.run Sys2Proof.core k s

/-- The four configuration registers hold a legal configuration (10_state.md R20 to R24). -/
def State.configured (s : State) : Prop :=
  ∃ m t p c, s.cfgMaxRetries = some m ∧ s.cfgPollTimeout = some t ∧ s.cfgTimeoutPolicy = some p ∧
    s.cfgReplyCheck = some c ∧ 1 ≤ m ∧ 1 ≤ t

/-- No session has ever started: no configuration, and nothing in progress (R40). -/
def State.fresh (s : State) : Prop :=
  s.cfgMaxRetries = none ∧ s.cfgPollTimeout = none ∧ s.cfgTimeoutPolicy = none ∧ s.cfgReplyCheck = none ∧
    s.sessionOpen = false ∧ s.seq = .seqIdle ∧ s.scanActive = false

/-- The flags hold no value. -/
def State.noFlags (s : State) : Prop := s.pHdrOk = none ∧ s.pLenOk = none ∧ s.pChkOk = none

/-- The controller at rest: Idle, no attempt, no reply (R28, R29, R30, R33, R35). -/
def State.readAtRest (s : State) : Prop :=
  s.rstate = .idle ∧ s.attempt = 0 ∧ s.rxn = none ∧ s.rxbuf = none ∧ s.rerr = none ∧ s.noFlags

/-- The per-operation registers after an operation (10_state.md R42). -/
def State.operationEnded (s : State) : Prop :=
  s.seq = .seqIdle ∧ s.curOp = none ∧ s.txbuf = none ∧ s.readAtRest

/-- The operation in progress is one of the five requests, with a valid operand, and TXBUF holds its frame
(R26, R27). -/
def State.transmitting (i : Instr) (s : State) : Prop :=
  s.curOp = some i ∧ i.isRequest = true ∧ i.wf = true ∧ s.txbuf = some (encode i)

/-- The reply registers in each state of the controller, for a read of `n` bytes (R28 to R30, R33, R35,
42_poll_controller.md R177). -/
def State.readRegisters (n : Nat) (s : State) : Prop :=
  match s.rstate with
  | .idle => s.readAtRest
  | .polling =>
    s.rxn = some n ∧ s.rxbuf = none ∧ s.rerr = none ∧ s.noFlags ∧ ∃ m, s.cfgMaxRetries = some m ∧ s.attempt < m
  | .reading =>
    s.rxn = some n ∧ s.rxbuf = none ∧ s.rerr = none ∧ s.noFlags ∧ 1 ≤ s.attempt ∧
      ∃ m, s.cfgMaxRetries = some m ∧ s.attempt ≤ m
  | .success =>
    s.rxn = some n ∧ s.rerr = none ∧ 1 ≤ s.attempt ∧ (∃ m, s.cfgMaxRetries = some m ∧ s.attempt ≤ m) ∧
      ∃ bs, s.rxbuf = some bs ∧ bs.length = n ∧ s.pHdrOk = some (hdrOk bs) ∧ s.pLenOk = some (lenOk bs) ∧
        s.pChkOk = some (chkOk bs)
  | .failed =>
    s.rxn = some n ∧ s.rxbuf = none ∧ s.noFlags ∧ 1 ≤ s.attempt ∧ (∃ m, s.cfgMaxRetries = some m ∧ s.attempt ≤ m) ∧
      (s.rerr = some .transportPollFailed ∨ s.rerr = some .transportReadFailed)

/-- The sequencer's registers in each state of SEQ. -/
def State.sequencing (s : State) : Prop :=
  match s.seq with
  | .seqIdle => s.operationEnded
  | .seqTx => (∃ i, s.transmitting i) ∧ s.readAtRest
  | .seqRx => ∃ i n, s.transmitting i ∧ i.replyLength = some n ∧ s.readRegisters n

/-- The scan registers (R36): no value outside a scan; inside one, SCAN_NEXT within SCAN_HI, the found ids
below SCAN_NEXT in ascending order, and any operation in progress a ping of SCAN_NEXT. -/
def State.scanning (s : State) : Prop :=
  if s.scanActive then
    ∃ n hi f, s.scanNext = some n ∧ s.scanHi = some hi ∧ s.scanFound = some f ∧ n ≤ hi ∧ hi ≤ 256 ∧
      f.Pairwise (fun a b => a.toNat < b.toNat) ∧ (∀ x ∈ f, x.toNat < n) ∧
      (s.seq ≠ .seqIdle → n < hi ∧ s.curOp = some (.ping (scanId n)))
  else s.scanNext = none ∧ s.scanHi = none ∧ s.scanFound = none

/-- The invariant of the block (10_state.md). -/
structure Inv (s : State) : Prop where
  config   : s.fresh ∨ s.configured
  sequence : s.sequencing
  scan     : s.scanning

/-- A state that admits a command (43_operations.md, the guard). -/
def State.admits (s : State) : Prop := s.sessionOpen = true ∧ s.seq = .seqIdle ∧ s.scanActive = false

/-- A command of the host's interface (00_scope.md R16, R17): a request row, a scan or an encoder. -/
def Command.isHost : Command → Bool
  | .op i => i.isRequest
  | _ => true

/-- The request the block waits on, if any (42_poll_controller.md R170). -/
def State.outstanding (s : State) : Option Request :=
  match s.seq with
  | .seqIdle => none
  | .seqTx => s.txbuf.map .txWrite
  | .seqRx =>
    match s.rstate with
    | .polling => s.cfgPollTimeout.map .txPoll
    | .reading => s.rxn.map .txRead
    | _ => none

/-- The next input answers a request of this kind (70_reset_and_hazards.md R279). -/
def answered (q : Request) : List Input → Bool
  | .answer (.write _) :: _ => match q with | .txWrite _ => true | _ => false
  | .answer (.poll _) :: _ => match q with | .txPoll _ => true | _ => false
  | .answer (.read _) :: _ => match q with | .txRead _ => true | _ => false
  | _ => false

/-- A bound on the steps an operation still takes (43_operations.md R210). -/
def State.stepsLeft (s : State) : Nat :=
  match s.seq with
  | .seqIdle => 0
  | .seqTx => s.cfgMaxRetries.getD 0 + 5
  | .seqRx =>
    match s.rstate with
    | .idle => s.cfgMaxRetries.getD 0 + 4
    | .polling => (s.cfgMaxRetries.getD 0 - s.attempt) + 3
    | .reading => 2
    | .success => 1
    | .failed => 1

/-- A bound on the steps a scan still takes, the host's choices between its items among them (43_operations.md
R206, R210): for each id not yet begun a whole ping and a choice, then what is left of the ping in progress, and
the end of the scan. -/
def State.scanStepsLeft (s : State) : Nat :=
  if s.scanActive then
    (s.scanHi.getD 0 - s.scanNext.getD 0 - (if s.seq = .seqIdle then 0 else 1)) * (s.cfgMaxRetries.getD 0 + 7) +
      s.stepsLeft + 1
  else 0

/-- Where the requests of one operation stand on the bus (20_memory.md R59). -/
inductive BusPhase where
  | quiet
  | written
  | polled (k : Nat)
  | read
  deriving DecidableEq, Repr

/-- The only order R59 allows: one write, then polls, then at most one read, then the result. -/
def BusPhase.after : BusPhase → Output → Option BusPhase
  | .quiet, .request (.txWrite _) => some .written
  | .written, .request (.txPoll _) => some (.polled 1)
  | .polled k, .request (.txPoll _) => some (.polled (k + 1))
  | .polled _, .request (.txRead _) => some .read
  | _, Output.result _ => some .quiet
  | _, _ => none

/-- The phase the outputs so far lead to; none where they break the order. -/
def busPhase (outs : List Output) : Option BusPhase := outs.foldlM BusPhase.after .quiet

/-- The outputs so far keep the order and agree with where the operation stands. -/
def State.turn (s : State) : Prop :=
  match s.seq with
  | .seqIdle => busPhase s.outputs = some .quiet
  | .seqTx => busPhase s.outputs = some .quiet
  | .seqRx =>
    match s.rstate with
    | .idle => busPhase s.outputs = some .written
    | .polling => busPhase s.outputs = some (if s.attempt = 0 then .written else .polled s.attempt)
    | .reading => busPhase s.outputs = some (.polled s.attempt)
    | .success => busPhase s.outputs = some .read
    | .failed => busPhase s.outputs = some (.polled s.attempt) ∨ busPhase s.outputs = some .read

/-- One iteration after another of the loop of 42_poll_controller.md R179, `budget` of them left. -/
def readExactLoop (n tm : Nat) (p : TimeoutPolicy) : Nat → State → Out
  | 0, _ => .refused .noTransition
  | budget + 1, s =>
    awaitAnswer (.txPoll tm) s fun a s1 =>
      let s2 : State := { s1 with attempt := s1.attempt + 1, outputs := s1.outputs ++ [.request (.txPoll tm)] }
      match a with
      | .poll .pollErr => .next { s2 with rerr := some .transportPollFailed, rstate := .failed }
      | .poll .timeout =>
        if p = .abortOnTimeout ∨ budget = 0 then
          .next { s2 with rerr := some .transportReadFailed, rstate := .failed }
        else readExactLoop n tm p budget s2
      | .poll .ready =>
        awaitAnswer (.txRead n) { s2 with rstate := .reading } fun b s3 =>
          let s4 : State := { s3 with outputs := s3.outputs ++ [.request (.txRead n)] }
          match b with
          | .read (.readOk bs) =>
            if bs.length = n then
              .next { s4 with rxbuf := some bs, rstate := .success, pHdrOk := some (hdrOk bs),
                              pLenOk := some (lenOk bs), pChkOk := some (chkOk bs) }
            else .next { s4 with rerr := some .transportReadFailed, rstate := .failed }
          | .read .readErr => .next { s4 with rerr := some .transportReadFailed, rstate := .failed }
          | _ => .refused .noTransition
      | _ => .refused .noTransition

/-- ReadExact(n) as one procedure (R179): `m` attempts of timeout `tm`. -/
def readExact (n m tm : Nat) (p : TimeoutPolicy) (s : State) : Out :=
  readExactLoop n tm p m { s with rxn := some n, attempt := 0, rerr := none, rstate := .polling }

/-- The transport's answers in a round trip: the whole write, `k` timeouts, readiness, the reply. -/
def exchange (ack k : Nat) (reply : Frame) : List Input :=
  Input.answer (.write (.writeOk ack)) ::
    (List.replicate k (Input.answer (.poll .timeout)) ++
      [Input.answer (.poll .ready), Input.answer (.read (.readOk reply))])

/-- The requests of a round trip. -/
def exchangeRequests (f : Frame) (tm polls count : Nat) : List Output :=
  Output.request (.txWrite f) ::
    (List.replicate polls (Output.request (.txPoll tm)) ++ [Output.request (.txRead count)])

/-- The answers to a scan whose pings are all answered at the first poll, the host going on after each. -/
def scanInputs : List Frame → List Input
  | [] => []
  | r :: rs => exchange 6 0 r ++ Input.scanContinue :: scanInputs rs

/-- The item of a scan at id `n` for the reply `r` (43_operations.md R206). -/
def scanItemOf (n : Nat) (r : Frame) : Result :=
  if r[2]? = some (scanId n) then .found (scanId n) else .absent (scanId n)

/-- What such a scan puts out, from id `n` on, before its end. -/
def scanOutputs (tm : Nat) : Nat → List Frame → List Output
  | _, [] => []
  | n, r :: rs =>
    exchangeRequests (encodePing (scanId n)) tm 1 6 ++ Output.result (scanItemOf n r) :: scanOutputs tm (n + 1) rs

end Sys2Proof.Machine
end

