-- ==== Sys2Proof/Certificates/Slice0/Obligations.lean ====
section
/-! DEFINITION. The statements for the provers. -/

open Sys2Proof Sys2Proof.Machine

/-! ## Framer and encoding -/

/-- R100, R104: `Frame(id, instr, params)` is the header, the body and the checksum of the body, and the
checksum is the complement of the low byte of the body's sum. -/
def Obligations.FrameIsHeaderBodyAndChecksum : Prop :=
  (∀ (id instr : Byte) (params : Frame), params.length ≤ 253 →
    (BitVec.ofNat 8 (params.length + 2)).toNat = params.length + 2 ∧
    frame id instr params =
      [0xFF, 0xFF] ++ ([id, BitVec.ofNat 8 (params.length + 2), instr] ++ params) ++
        [checksum ([id, BitVec.ofNat 8 (params.length + 2), instr] ++ params)]) ∧
  (∀ body : Frame, (checksum body).toNat = 255 - byteSum body % 256 ∧
    checksum body = ~~~ BitVec.ofNat 8 (byteSum body))

/-- R102 and R103, which the spec marks as derived: the checksum closes the sum to 0xFF, every frame
passes the validator, and complementing before or after masking gives one byte. -/
def Obligations.ChecksumClosesTheSum : Prop :=
  (∀ body : Frame, (byteSum body + (checksum body).toNat) % 256 = 255) ∧
  (∀ (id instr : Byte) (params : Frame), chkOk (frame id instr params) = true) ∧
  (∀ v : Nat, ~~~ BitVec.ofNat 8 v = ~~~ BitVec.ofNat 8 (v % 256))

/-- R110, R112, R113, R114: the frames of ping, move, get-position and set-speed, byte by byte, and
InvalidRange with no frame outside [0, 1023]. -/
def Obligations.EncodersGiveTheRequestFrames : Prop :=
  ∀ (id : Byte) (raw : Int),
    encodePing id = [0xFF, 0xFF, id, 0x02, 0x01, BitVec.ofNat 8 (255 - (id.toNat + 3) % 256)] ∧
    encodeGetPosition id =
      [0xFF, 0xFF, id, 0x04, 0x02, 0x24, 0x02, BitVec.ofNat 8 (255 - (id.toNat + 44) % 256)] ∧
    (∀ lo hi : Nat, lo < 256 → hi < 4 → raw = (lo : Int) + 256 * hi →
      encodeMove id raw =
        .ok [0xFF, 0xFF, id, 0x05, 0x03, 0x1E, BitVec.ofNat 8 lo, BitVec.ofNat 8 hi,
          BitVec.ofNat 8 (255 - (id.toNat + 38 + lo + hi) % 256)] ∧
      encodeSetSpeed id raw =
        .ok [0xFF, 0xFF, id, 0x05, 0x03, 0x20, BitVec.ofNat 8 lo, BitVec.ofNat 8 hi,
          BitVec.ofNat 8 (255 - (id.toNat + 40 + lo + hi) % 256)]) ∧
    (0 ≤ raw → raw ≤ 1023 → ∃ lo hi : Nat, lo < 256 ∧ hi < 4 ∧ raw = (lo : Int) + 256 * hi) ∧
    (raw < 0 ∨ 1023 < raw →
      encodeMove id raw = .error .invalidRange ∧ encodeSetSpeed id raw = .error .invalidRange)

/-- The set-id frame of 40_framer.md (its rule on unchecked ids is the spec's own decision D27). -/
def Obligations.SetIdFrameTakesAnyIds : Prop :=
  ∀ oldId newId : Byte,
    encodeSetId oldId newId =
      [0xFF, 0xFF, oldId, 0x04, 0x03, 0x03, newId,
        BitVec.ofNat 8 (255 - (oldId.toNat + newId.toNat + 10) % 256)]

/-- Decode and encode agree on every well-formed instruction: all eleven rows of the request direction and
both reply rows, with every operand. -/
def Obligations.DecodeRecoversEveryInstruction : Prop :=
  ∀ i : Instr, i.wf = true →
    (i.isReply = false → decodeRequest (encode i) = .ok i) ∧
    (i.isReply = true → decodeReply (encode i) = .ok i)

/-- A table word numbers a frame with byte 0 most significant (R86, log 1): the word of every well-formed
request, and of every complete frame of a code that is never emitted, decodes to it. -/
def Obligations.TableWordRecoversEveryRequest : Prop :=
  ∀ i : Instr, i.wf = true → i.isReply = false →
    decodeTableWord (8 * (encode i).length) (tableWord (encode i)) = some i

/-- The frames the block emits are exactly the five rows with valid operands (R86, derived there): 6, 8 or
9 bytes, with the header, LEN and CHK of R86 and none of the codes of R82. -/
def Obligations.EmittedFramesAreTheFiveRows : Prop :=
  ∀ bs : Frame,
    (isEmitted bs = true ↔ ∃ i : Instr, i.isRequest = true ∧ i.wf = true ∧ encode i = bs) ∧
    (isEmitted bs = true →
      (bs.length = 6 ∨ bs.length = 8 ∨ bs.length = 9) ∧ hdrOk bs = true ∧ lenOk bs = true ∧ chkOk bs = true ∧
        (bs[4]? = some 0x01 ∨ bs[4]? = some 0x02 ∨ bs[4]? = some 0x03))

/-- The generic decoder (41_parser.md section 1, decision D17) takes every field by its place, passes any
INSTR byte through, and has no value on fewer than six bytes. -/
def Obligations.GenericDecodeReadsEveryField : Prop :=
  (∀ (h0 h1 id lenf instr chk : Byte) (params : Frame),
    decodeFields ([h0, h1, id, lenf, instr] ++ params ++ [chk]) = some ⟨id, lenf, instr, params, chk⟩ ∧
    commandByte ([h0, h1, id, lenf, instr] ++ params ++ [chk]) = some (params.headD instr)) ∧
  (∀ bs : Frame, bs.length < 6 → decodeFields bs = none ∧ commandByte bs = none)

/-- Decoding a freshly encoded request recovers the id, the instruction code and the command (R117, derived
there; the source's round trip). -/
def Obligations.GenericDecodeRecoversIdAndCommand : Prop :=
  (∀ id : Byte, (decodeFields (encodePing id)).map (fun d => (d.id, d.instr)) = some (id, 0x01) ∧
    commandByte (encodePing id) = some 0x01) ∧
  (∀ id new : Byte, (decodeFields (encodeSetId id new)).map (fun d => (d.id, d.instr)) = some (id, 0x03) ∧
    commandByte (encodeSetId id new) = some 0x03) ∧
  (∀ (id : Byte) (raw : Int) (f : Frame), encodeMove id raw = .ok f →
    (decodeFields f).map (fun d => (d.id, d.instr)) = some (id, 0x03) ∧ commandByte f = some 0x1E) ∧
  (∀ id : Byte, (decodeFields (encodeGetPosition id)).map (fun d => (d.id, d.instr)) = some (id, 0x02) ∧
    commandByte (encodeGetPosition id) = some 0x24) ∧
  (∀ (id : Byte) (raw : Int) (f : Frame), encodeSetSpeed id raw = .ok f →
    (decodeFields f).map (fun d => (d.id, d.instr)) = some (id, 0x03) ∧ commandByte f = some 0x20)

/-- Words of the table written out from the spec's encodings decode to their rows (30_encoding.md sections 3 and
4; the last, a never emitted code's first five bytes, sections 2, 5 and 7). That byte 0 is the most significant
byte of a word is section 7, R86, as log 1 reads it (DEDUCED). -/
def Obligations.SampleWordsDecodeToTheirRows : Prop :=
  decodeTableWord 48 0xFFFF050201F7 = some (.ping 5) ∧
  decodeTableWord 64 0xFFFF0104030302F2 = some (.setId 1 2) ∧
  decodeTableWord 72 0xFFFF0105031E0002D6 = some (.move 1 512) ∧
  decodeTableWord 64 0xFFFF0104022402D2 = some (.getPosition 1) ∧
  decodeTableWord 72 0xFFFF01050320640072 = some (.setSpeed 1 100) ∧
  decodeTableWord 48 0xFFFF050200F8 = some (.pingReply 0xFF 0xFF 0x05 0x02 0x00 0xF8) ∧
  decodeTableWord 64 0xFFFF010400640096 = some (.positionReply 0xFF 0xFF 0x01 0x04 0x00 0x64 0x00 0x96) ∧
  decodeTableWord 40 0xFFFF010583 = some (.syncWrite 1 5 [])

/-! ## Parser -/

/-- R144: the validator's sum, and its equivalence to the checksum of the covered bytes; it looks at
neither the header nor LEN. -/
def Obligations.ValidatorMeansTheChecksumMatches : Prop :=
  (∀ (h0 h1 id lenf instr chk : Byte) (params : Frame),
    (chkOk ([h0, h1, id, lenf, instr] ++ params ++ [chk]) = true ↔
      (byteSum ([id, lenf, instr] ++ params) + chk.toNat) % 256 = 255) ∧
    (chkOk ([h0, h1, id, lenf, instr] ++ params ++ [chk]) = true ↔
      chk = checksum ([id, lenf, instr] ++ params))) ∧
  chkOk [0x00, 0x00, 0x00, 0x00, 0x00, 0xFF] = true ∧
  hdrOk [0x00, 0x00, 0x00, 0x00, 0x00, 0xFF] = false ∧ lenOk [0x00, 0x00, 0x00, 0x00, 0x00, 0xFF] = false ∧
  chkOk [0xFF, 0xFF, 0xFF, 0xFF, 0xFF, 0xFF] = false

/-- HdrOk and LenOk (41_parser.md section 1) on every sequence of six bytes or more. -/
def Obligations.StructuralFlagsReadHeaderAndLength : Prop :=
  ∀ (h0 h1 id lenf instr chk : Byte) (params : Frame),
    (hdrOk ([h0, h1, id, lenf, instr] ++ params ++ [chk]) = true ↔ h0 = 0xFF ∧ h1 = 0xFF) ∧
    (lenOk ([h0, h1, id, lenf, instr] ++ params ++ [chk]) = true ↔
      lenf.toNat = ([h0, h1, id, lenf, instr] ++ params ++ [chk]).length - 4)

/-- Reply operands stand at fixed offsets (41_parser.md section 3, decisions D13 and D18): the id at 2, the
position low byte first at 5 and 6, unsigned, with no check of any other byte. -/
def Obligations.ReplyOperandsStandAtFixedOffsets : Prop :=
  (∀ b0 b1 b2 b3 b4 b5 id : Byte, pingMatch [b0, b1, b2, b3, b4, b5] id = some (decide (b2 = id))) ∧
  (∀ b0 b1 b2 b3 b4 b5 b6 b7 : Byte,
    position [b0, b1, b2, b3, b4, b5, b6, b7] = some (b5.toNat + 256 * b6.toNat) ∧
    b5.toNat + 256 * b6.toNat ≤ 65535)

/-! ## Reset, session, guard -/

/-- The reset table of 10_state.md section 8 (decision D19). -/
def Obligations.ResetHoldsTheResetTable : Prop :=
  State.reset.cfgMaxRetries = none ∧ State.reset.cfgPollTimeout = none ∧
  State.reset.cfgTimeoutPolicy = none ∧ State.reset.cfgReplyCheck = none ∧
  State.reset.sessionOpen = false ∧ State.reset.seq = .seqIdle ∧ State.reset.curOp = none ∧
  State.reset.txbuf = none ∧ State.reset.rxn = none ∧ State.reset.rxbuf = none ∧
  State.reset.rstate = .idle ∧ State.reset.attempt = 0 ∧ State.reset.rerr = none ∧
  State.reset.pHdrOk = none ∧ State.reset.pLenOk = none ∧ State.reset.pChkOk = none ∧
  State.reset.scanActive = false ∧ State.reset.scanNext = none ∧ State.reset.scanHi = none ∧
  State.reset.scanFound = none ∧ State.reset.result = none

/-- The invariant of the block and the order of its requests hold at reset. -/
def Obligations.InvariantHoldsAtReset : Prop := Inv State.reset ∧ State.reset.turn

/-- Every step keeps the invariant of the block: a legal configuration, the registers of each state of SEQ
and RSTATE, ATTEMPT within budget, the scan registers. -/
def Obligations.EveryStepKeepsTheInvariant : Prop :=
  ∀ s t : State, Inv s → step s = .next t → Inv t

/-- No state that meets the invariant reads a register that holds no value (10_state.md R41, decision D19),
nor a reply of the wrong length. -/
def Obligations.NoStepReadsAnUnwrittenRegister : Prop :=
  ∀ s : State, Inv s → (∀ r, step s ≠ .fault (.unwrittenState r)) ∧ step s ≠ .refused .replyLength

/-- Session start (70_reset_and_hazards.md section 2, 10_state.md section 8, decisions D19, D26 and D28; log 11):
with legal parameters the block takes the session-start state, RESULT without a value among it, with the
configuration written and the session open; illegal or missing parameters are refused; a second start is
refused. -/
def Obligations.SessionStartWritesTheConfiguration : Prop :=
  ∀ (s : State) (rest : List Input) (q : SessionParams),
    s.inputs = .startSession q :: rest → s.seq = .seqIdle → s.scanActive = false →
    (∀ m tm p c, s.sessionOpen = false → q = ⟨some m, some tm, some p, some c⟩ →
      (1 ≤ m → 1 ≤ tm →
        step s = .next { State.reset with
          inputs := rest, outputs := s.outputs, cfgMaxRetries := some m, cfgPollTimeout := some tm,
          cfgTimeoutPolicy := some p, cfgReplyCheck := some c, sessionOpen := true }) ∧
      (m = 0 ∨ tm = 0 → step s = .refused .illegalConfig)) ∧
    (s.sessionOpen = false →
      q.maxRetries = none ∨ q.pollTimeout = none ∨ q.timeoutPolicy = none ∨ q.replyCheck = none →
      step s = .refused .missingConfig) ∧
    (s.sessionOpen = true → step s = .refused .sessionAlreadyOpen)

/-- From any state, a reset leaves the reset table and nothing else of the block (70_reset_and_hazards.md
section 1, decision D26; log 13), and a close of an open session clears SESSION_OPEN alone (log 12). That a close with no session open is
refused is the model's choice (log 23). -/
def Obligations.ResetAndCloseActInEveryState : Prop :=
  (∀ (s : State) (rest : List Input), s.inputs = .reset :: rest →
    step s = .next { State.reset with inputs := rest }) ∧
  (∀ (s : State) (rest : List Input), s.inputs = .closeSession :: rest →
    (s.sessionOpen = true → step s = .next { s with inputs := rest, sessionOpen := false }) ∧
    (s.sessionOpen = false → step s = .refused .sessionNotOpen))

/-- The configuration is written by a session start and a reset only, and SESSION_OPEN besides by a close:
no operation and no error changes either (10_state.md R20, decision D26; 43_operations.md R207). -/
def Obligations.OperationsLeaveTheSessionAlone : Prop :=
  ∀ s t : State, step s = .next t → preempts s.inputs = false →
    (∀ q rest, s.inputs ≠ .startSession q :: rest) →
    t.cfgMaxRetries = s.cfgMaxRetries ∧ t.cfgPollTimeout = s.cfgPollTimeout ∧
    t.cfgTimeoutPolicy = s.cfgTimeoutPolicy ∧ t.cfgReplyCheck = s.cfgReplyCheck ∧ t.sessionOpen = s.sessionOpen

/-- A command while SESSION_OPEN is false has no step (10_state.md R25, decision D28): every request row,
scan and encoder. -/
def Obligations.NoCommandOutsideASession : Prop :=
  ∀ (s : State) (c : Command) (rest : List Input),
    s.sessionOpen = false → s.seq = .seqIdle → c.isHost = true → s.inputs = .command c :: rest →
    step s = .refused .noSession

/-- A busy block takes no command (70_reset_and_hazards.md R277, decision D20; log 18): it is refused where
the block waits on the transport or between scan items, and no step of a busy block consumes it. -/
def Obligations.BusyBlockTakesNoCommand : Prop :=
  ∀ (s : State) (c : Command) (rest : List Input), s.inputs = .command c :: rest →
    (∀ t, s.seq ≠ .seqIdle → step s = .next t → t.inputs = s.inputs) ∧
    (Inv s → s.outstanding ≠ none → step s = .refused .busy) ∧
    (s.seq = .seqIdle → s.scanActive = true → s.sessionOpen = true → c.isHost = true →
      step s = .refused .busy)

/-! ## Operations -/

/-- A valid request given to a block that admits it starts to transmit: ping, set_id, move, get_position and
set_speed write CUR_OP, TXBUF and SEQ, and nothing else (43_operations.md section 1; log 5). -/
def Obligations.RequestsStartTransmitting : Prop :=
  ∀ (i : Instr) (s : State), i.isRequest = true → i.wf = true → s.admits →
    exec i s = .next { s with curOp := some i, seq := .seqTx, txbuf := some (encode i) }

/-- R241: a raw operand outside [0, 1023] raises InvalidRange in move_to, set_speed and both encoders, with
no frame and no transport request: RESULT takes the error, and the block is idle. -/
def Obligations.InvalidRangeComesBeforeAnyRequest : Prop :=
  ∀ (id : Byte) (raw : Int) (s : State), raw < 0 ∨ 1023 < raw → s.admits → s.operationEnded →
    exec (.move id raw) s =
      .next { s with result := some (.error .invalidRange), outputs := s.outputs ++ [.result (.error .invalidRange)] } ∧
    exec (.setSpeed id raw) s =
      .next { s with result := some (.error .invalidRange), outputs := s.outputs ++ [.result (.error .invalidRange)] } ∧
    execEncodeMove id raw s =
      .next { s with result := some (.error .invalidRange), outputs := s.outputs ++ [.result (.error .invalidRange)] } ∧
    execEncodeSetSpeed id raw s =
      .next { s with result := some (.error .invalidRange), outputs := s.outputs ++ [.result (.error .invalidRange)] }

/-- The encoders as commands (00_scope.md R17; 40_framer.md R115; guarded by the model's choice, log 8): a
step writes RESULT with the frame, posts it, and leaves all else. -/
def Obligations.EncoderCommandsWriteOnlyTheResult : Prop :=
  ∀ (s : State) (rest : List Input) (c : Command) (f : Frame), s.admits → s.inputs = .command c :: rest →
    (∃ id, c = .encodePing id ∧ f = encodePing id) ∨ (∃ a b, c = .encodeSetId a b ∧ f = encodeSetId a b) ∨
    (∃ id raw, c = .encodeMove id raw ∧ encodeMove id raw = .ok f) ∨
    (∃ id, c = .encodeGetPosition id ∧ f = encodeGetPosition id) ∨
    (∃ id raw, c = .encodeSetSpeed id raw ∧ encodeSetSpeed id raw = .ok f) →
    step s = .next { s with inputs := rest, result := some (.frame f), outputs := s.outputs ++ [.result (.frame f)] }

/-- set_id, move and set_speed complete: the exact write count gives Done, the request is issued once, and
the operation's registers lose their values (43_operations.md section 2). -/
def Obligations.WriteOnlyOperationsAnswerDone : Prop :=
  ∀ (i : Instr) (s : State) (f : Frame) (rest : List Input),
    i.isRequest = true → i.replyLength = none → s.seq = .seqTx → s.curOp = some i → s.txbuf = some f →
    s.inputs = .answer (.write (.writeOk f.length)) :: rest →
    exec i s =
      .next { s with inputs := rest, seq := .seqIdle, curOp := none, txbuf := none, rxn := none, rxbuf := none,
                     rstate := .idle, attempt := 0, rerr := none, pHdrOk := none, pLenOk := none, pChkOk := none,
                     result := some .done,
                     outputs := s.outputs ++ [.request (.txWrite f)] ++ [.result .done] }

/-- ping and get_position go on from an exact write to the reply, and invoke ReadExact with a full budget
(43_operations.md section 2; 42_poll_controller.md section 2, decision D19). -/
def Obligations.ReadingOperationsInvokeTheRead : Prop :=
  ∀ (i : Instr) (n : Nat) (s : State) (f : Frame) (rest : List Input),
    i.replyLength = some n → s.curOp = some i →
    (s.seq = .seqTx → s.txbuf = some f → s.inputs = .answer (.write (.writeOk f.length)) :: rest →
      exec i s =
        .next { s with inputs := rest, seq := .seqRx, outputs := s.outputs ++ [.request (.txWrite f)] }) ∧
    (s.seq = .seqRx → s.rstate = .idle →
      exec i s = .next { s with rxn := some n, attempt := 0, rerr := none, rstate := .polling })

/-- A write error, a short count or a count above the frame's length raises TransportWriteFailed in all five
operations, with no poll and no read after it (43_operations.md R200, 60_exceptions.md R242, decision D10). -/
def Obligations.AnyOtherWriteAnswerFailsTheOperation : Prop :=
  ∀ (i : Instr) (s : State) (f : Frame) (a : WriteAnswer) (rest : List Input),
    i.isRequest = true → s.seq = .seqTx → s.curOp = some i → s.txbuf = some f → s.scanActive = false →
    s.inputs = .answer (.write a) :: rest → a ≠ .writeOk f.length →
    exec i s =
      .next { s with inputs := rest, seq := .seqIdle, curOp := none, txbuf := none, rxn := none, rxbuf := none,
                     rstate := .idle, attempt := 0, rerr := none, pHdrOk := none, pLenOk := none, pChkOk := none,
                     result := some (.error .transportWriteFailed),
                     outputs := s.outputs ++ [.request (.txWrite f)] ++ [.result (.error .transportWriteFailed)] }

/-- R175: a poll error fails the read with TransportPollFailed at any attempt and under either policy; the
attempt and its request are counted. -/
def Obligations.PollErrorFailsTheReadAtOnce : Prop :=
  ∀ (i : Instr) (n m tm : Nat) (s : State) (rest : List Input),
    i.replyLength = some n → s.seq = .seqRx → s.rstate = .polling → s.curOp = some i →
    s.cfgMaxRetries = some m → s.cfgPollTimeout = some tm → s.attempt < m →
    s.inputs = .answer (.poll .pollErr) :: rest →
    exec i s =
      .next { s with inputs := rest, attempt := s.attempt + 1, rstate := .failed,
                     rerr := some .transportPollFailed, outputs := s.outputs ++ [.request (.txPoll tm)] }

/-- Ready and Timeout (42_poll_controller.md R172 to R174, R176; decisions D6 to D8): every attempt is counted
and polls with CFG_POLL_TIMEOUT; readiness leads to Reading; a timeout aborts, retries while budget is left,
or exhausts the budget. -/
def Obligations.PollAnswersFollowThePolicy : Prop :=
  ∀ (i : Instr) (n m tm : Nat) (p : TimeoutPolicy) (a : PollAnswer) (s s1 : State) (rest : List Input),
    i.replyLength = some n → s.seq = .seqRx → s.rstate = .polling → s.curOp = some i →
    s.cfgMaxRetries = some m → s.cfgPollTimeout = some tm → s.cfgTimeoutPolicy = some p → s.attempt < m →
    s.inputs = .answer (.poll a) :: rest →
    s1 = { s with inputs := rest, attempt := s.attempt + 1, outputs := s.outputs ++ [.request (.txPoll tm)] } →
    (a = .ready → exec i s = .next { s1 with rstate := .reading }) ∧
    (a = .timeout → p = .retryOnTimeout → s.attempt + 1 < m → exec i s = .next s1) ∧
    (a = .timeout → p = .abortOnTimeout ∨ s.attempt + 1 = m →
      exec i s = .next { s1 with rerr := some .transportReadFailed, rstate := .failed })

/-- ping_reply and position_reply complete: the bytes of the expected length fill RXBUF, the flags latch in
the same step, and the controller succeeds (42_poll_controller.md R176; 41_parser.md R143; decisions D11, D17). -/
def Obligations.ReplyRowsFillTheReplyRegister : Prop :=
  ∀ (i : Instr) (s : State), i.isReply = true → s.seq = .seqRx → s.rstate = .reading →
    s.rxn = some (encode i).length →
    exec i s =
      .next { s with rxbuf := some (encode i), rstate := .success, pHdrOk := some (hdrOk (encode i)),
                     pLenOk := some (lenOk (encode i)), pChkOk := some (chkOk (encode i)),
                     outputs := s.outputs ++ [.request (.txRead (encode i).length)] }

/-- A reply row of the wrong length for the read fails it, and outside Reading it has no step
(42_poll_controller.md R176, R178). -/
def Obligations.ReplyRowsNeedTheirRead : Prop :=
  ∀ (i : Instr) (s : State), i.isReply = true →
    (∀ n, s.seq = .seqRx → s.rstate = .reading → s.rxn = some n → (encode i).length ≠ n →
      exec i s =
        .next { s with rerr := some .transportReadFailed, rstate := .failed,
                       outputs := s.outputs ++ [.request (.txRead n)] }) ∧
    (¬ (s.seq = .seqRx ∧ s.rstate = .reading) → exec i s = .refused .noTransition)

/-- Any other answer to the read fails it for good (42_poll_controller.md R176, decision D11): a count that
is not RXN, or a read error, whatever budget is left. -/
def Obligations.AnyOtherReadAnswerFailsTheRead : Prop :=
  ∀ (i : Instr) (n : Nat) (s : State) (a : ReadAnswer) (rest : List Input),
    i.replyLength = some n → s.seq = .seqRx → s.rstate = .reading → s.curOp = some i → s.rxn = some n →
    s.inputs = .answer (.read a) :: rest → (∀ bs, a = .readOk bs → bs.length ≠ n) →
    step s =
      .next { s with inputs := rest, rerr := some .transportReadFailed, rstate := .failed,
                     outputs := s.outputs ++ [.request (.txRead n)] }

/-- R181: RXBUF takes bytes from one TxRead answer of exactly RXN bytes and from nowhere else, a short
answer leaves no bytes behind, and Reading never returns to Polling. -/
def Obligations.ReplyBytesComeFromOneExactRead : Prop :=
  ∀ s t : State, Inv s → step s = .next t →
    (∀ bs, t.rxbuf = some bs → s.rxbuf ≠ some bs →
      s.rstate = .reading ∧ s.rxn = some bs.length ∧ ∃ rest, s.inputs = .answer (.read (.readOk bs)) :: rest) ∧
    (s.rstate = .reading →
      t.rstate ≠ .polling ∧
      ∀ bs rest, s.inputs = .answer (.read (.readOk bs)) :: rest → s.rxn ≠ some bs.length →
        t.rxbuf = none ∧ t.rstate = .failed)

/-- ping completes outside a scan (43_operations.md R201; 41_parser.md R145, R152; decisions D9, D18): under
Trust whatever the flags, under Verify with a good checksum, RESULT is whether byte 2 is the id. -/
def Obligations.PingAnswersWhetherTheIdMatches : Prop :=
  ∀ (id b0 b1 b2 b3 b4 b5 : Byte) (s : State),
    s.seq = .seqRx → s.rstate = .success → s.curOp = some (.ping id) →
    s.rxbuf = some [b0, b1, b2, b3, b4, b5] → s.scanActive = false →
    (s.cfgReplyCheck = some .trust ∨ s.cfgReplyCheck = some .verify ∧ s.pChkOk = some true) →
    exec (.ping id) s =
      .next { s with seq := .seqIdle, curOp := none, txbuf := none, rxn := none, rxbuf := none,
                     rstate := .idle, attempt := 0, rerr := none, pHdrOk := none, pLenOk := none, pChkOk := none,
                     result := some (.bool (decide (b2 = id))),
                     outputs := s.outputs ++ [.result (.bool (decide (b2 = id)))] }

/-- get_position completes (43_operations.md R204; 41_parser.md R146, R152; decisions D9, D13): RESULT is the
unsigned 16-bit value at bytes 5 and 6, whatever id the reply carries. -/
def Obligations.GetPositionAnswersTheUnsignedValue : Prop :=
  ∀ (id b0 b1 b2 b3 b4 b5 b6 b7 : Byte) (s : State),
    s.seq = .seqRx → s.rstate = .success → s.curOp = some (.getPosition id) →
    s.rxbuf = some [b0, b1, b2, b3, b4, b5, b6, b7] →
    (s.cfgReplyCheck = some .trust ∨ s.cfgReplyCheck = some .verify ∧ s.pChkOk = some true) →
    exec (.getPosition id) s =
      .next { s with seq := .seqIdle, curOp := none, txbuf := none, rxn := none, rxbuf := none,
                     rstate := .idle, attempt := 0, rerr := none, pHdrOk := none, pLenOk := none, pChkOk := none,
                     result := some (.position (b5.toNat + 256 * b6.toNat)),
                     outputs := s.outputs ++ [.result (.position (b5.toNat + 256 * b6.toNat))] }

/-- Under Verify, a reply whose checksum fails ends ping and get_position with ReplyChecksumMismatch
(41_parser.md R152, 60_exceptions.md R245, decision D9). -/
def Obligations.BadChecksumUnderVerifyIsAnError : Prop :=
  ∀ (i : Instr) (n : Nat) (bs : Frame) (s : State), i.replyLength = some n →
    s.seq = .seqRx → s.rstate = .success → s.curOp = some i → s.rxbuf = some bs → s.scanActive = false →
    s.cfgReplyCheck = some .verify → s.pChkOk = some false →
    exec i s =
      .next { s with seq := .seqIdle, curOp := none, txbuf := none, rxn := none, rxbuf := none,
                     rstate := .idle, attempt := 0, rerr := none, pHdrOk := none, pLenOk := none, pChkOk := none,
                     result := some (.error .replyChecksumMismatch),
                     outputs := s.outputs ++ [.result (.error .replyChecksumMismatch)] }

/-- A failed read ends ping and get_position with the reason in RERR (43_operations.md R201, R204). -/
def Obligations.FailedReadEndsWithItsReason : Prop :=
  ∀ (i : Instr) (n : Nat) (e : ErrorKind) (s : State), i.replyLength = some n →
    s.seq = .seqRx → s.rstate = .failed → s.curOp = some i → s.rerr = some e → s.scanActive = false →
    exec i s =
      .next { s with seq := .seqIdle, curOp := none, txbuf := none, rxn := none, rxbuf := none,
                     rstate := .idle, attempt := 0, rerr := none, pHdrOk := none, pLenOk := none, pChkOk := none,
                     result := some (.error e), outputs := s.outputs ++ [.result (.error e)] }

/-- Error entry (60_exceptions.md R250, decision D19 on the registers of R42): raising an error writes RESULT,
and the per-operation registers lose their values. Inside a scan RESULT is Failed(id, E), and the scan ends:
SCAN_ACTIVE is false and SCAN_NEXT, SCAN_HI and SCAN_FOUND lose their values (R36, R206, decision D14). Nothing
else changes, and no request is issued. -/
def Obligations.ErrorEntryWritesResultAndEndsTheOperation : Prop :=
  ∀ (e : ErrorKind) (s : State),
    (s.scanActive = false →
      raise e s =
        .next { s with seq := .seqIdle, curOp := none, txbuf := none, rxn := none, rxbuf := none,
                       rstate := .idle, attempt := 0, rerr := none, pHdrOk := none, pLenOk := none, pChkOk := none,
                       result := some (.error e), outputs := s.outputs ++ [.result (.error e)] }) ∧
    (∀ n, s.scanActive = true → s.scanNext = some n →
      raise e s =
        .next { s with seq := .seqIdle, curOp := none, txbuf := none, rxn := none, rxbuf := none,
                       rstate := .idle, attempt := 0, rerr := none, pHdrOk := none, pLenOk := none, pChkOk := none,
                       scanActive := false, scanNext := none, scanHi := none, scanFound := none,
                       result := some (.scanFailed (BitVec.ofNat 8 n) e),
                       outputs := s.outputs ++ [.result (.scanFailed (BitVec.ofNat 8 n) e)] })

/-- A request the transport never answers leaves the block stuck, with that request outstanding, not failed
(42_poll_controller.md R170, 70_reset_and_hazards.md R279, decision D21). -/
def Obligations.UnansweredRequestLeavesTheBlockStuck : Prop :=
  ∀ (s : State) (q : Request), Inv s → s.inputs = [] → s.outstanding = some q →
    step s = .fault (.noAnswer q)

/-- The six codes the block never emits are refused by name in every state (30_encoding.md R82, 93 U19,
decision D25). -/
def Obligations.NeverEmittedCodesAreRefused : Prop :=
  ∀ (id len : Byte) (rest : Frame) (s : State),
    exec (.regWrite id len rest) s = .refused (.neverEmitted 0x04) ∧
    exec (.action id len rest) s = .refused (.neverEmitted 0x05) ∧
    exec (.factoryReset id len rest) s = .refused (.neverEmitted 0x06) ∧
    exec (.reboot id len rest) s = .refused (.neverEmitted 0x08) ∧
    exec (.syncWrite id len rest) s = .refused (.neverEmitted 0x83) ∧
    exec (.bulkRead id len rest) s = .refused (.neverEmitted 0x92)

/-- A step runs the row it takes: an idle block the row a command names, a reading block the reply row the
arriving bytes decode to, any other busy block the operation in CUR_OP; and a table word placed from outside
(log 16) is the row the next step runs. -/
def Obligations.StepRunsTheRowItTakes : Prop :=
  (∀ (s : State) (i : Instr) (rest : List Input), s.seq = .seqIdle → s.inputs = .command (.op i) :: rest →
    step s = exec i { s with inputs := rest }) ∧
  (∀ (s : State) (i : Instr) (bs : Frame) (rest : List Input), s.seq = .seqRx → s.rstate = .reading →
    s.inputs = .answer (.read (.readOk bs)) :: rest → decodeReply bs = .ok i →
    step s = exec i { s with inputs := rest }) ∧
  (∀ (s : State) (i : Instr), s.seq ≠ .seqIdle → s.curOp = some i → i.isReply = false →
    preempts s.inputs = false → fetchReply s = none → step s = exec i s) ∧
  (∀ (s : State) (nbits w : Nat) (i : Instr), decodeTableWord nbits w = some i →
    ∃ u : State, u.inputs = s.inputs ∧ (i.isReply = false → u.admits) ∧
      (i.isReply = true → u.seq = .seqRx ∧ u.rstate = .reading ∧ u.rxn = some (encode i).length) ∧
      step (s.withFetchWord nbits w) = exec i u)

/-! ## Scan -/

/-- A scan starts (43_operations.md R206, decision D14; log 9): a bound above 256 is refused, an empty range
is Complete at once, otherwise the first ping starts. -/
def Obligations.ScanStartsWithItsFirstPing : Prop :=
  ∀ (lo hi : Nat) (s : State) (rest : List Input), s.admits → s.inputs = .command (.scan lo hi) :: rest →
    (256 < hi → step s = .refused (.scanBound hi)) ∧
    (hi ≤ 256 → hi ≤ lo →
      step s =
        .next { s with inputs := rest, scanActive := false, scanNext := none, scanHi := none, scanFound := none,
                       result := some .complete, outputs := s.outputs ++ [.result .complete] }) ∧
    (hi ≤ 256 → lo < hi →
      step s =
        .next { s with inputs := rest, scanActive := true, scanNext := some lo, scanHi := some hi,
                       scanFound := some [], curOp := some (.ping (BitVec.ofNat 8 lo)), seq := .seqTx,
                       txbuf := some (encodePing (BitVec.ofNat 8 lo)) })

/-- A ping of a scan posts its item (43_operations.md R206, decision D14; log 10): Found joins SCAN_FOUND,
Absent leaves it as it is and does not read it, and SCAN_NEXT moves on by one. -/
def Obligations.ScanPostsOneItemPerPing : Prop :=
  ∀ (id b0 b1 b2 b3 b4 b5 : Byte) (n : Nat) (f : Option (List Byte)) (s : State),
    s.seq = .seqRx → s.rstate = .success → s.curOp = some (.ping id) →
    s.rxbuf = some [b0, b1, b2, b3, b4, b5] →
    (s.cfgReplyCheck = some .trust ∨ s.cfgReplyCheck = some .verify ∧ s.pChkOk = some true) →
    s.scanActive = true → s.scanNext = some n → s.scanFound = f → (b2 = id → f ≠ none) → id = BitVec.ofNat 8 n →
    exec (.ping id) s =
      .next { s with seq := .seqIdle, curOp := none, txbuf := none, rxn := none, rxbuf := none,
                     rstate := .idle, attempt := 0, rerr := none, pHdrOk := none, pLenOk := none, pChkOk := none,
                     scanNext := some (n + 1), scanFound := if b2 = id then f.map (· ++ [id]) else f,
                     result := some (if b2 = id then .found id else .absent id),
                     outputs := s.outputs ++ [.result (if b2 = id then .found id else .absent id)] }

/-- Any error of a ping ends its scan with Failed(id, E) (43_operations.md R206, 60_exceptions.md R250): a
failed read, a failed write, and under Verify a bad checksum. -/
def Obligations.ScanEndsAtItsFirstError : Prop :=
  ∀ (id : Byte) (n : Nat) (e : ErrorKind) (s s1 u : State), s.curOp = some (.ping id) → s.scanActive = true →
    s.scanNext = some n →
    u = { s1 with seq := .seqIdle, curOp := none, txbuf := none, rxn := none, rxbuf := none,
                  rstate := .idle, attempt := 0, rerr := none, pHdrOk := none, pLenOk := none, pChkOk := none,
                  scanActive := false, scanNext := none, scanHi := none, scanFound := none,
                  result := some (.scanFailed (BitVec.ofNat 8 n) e),
                  outputs := s1.outputs ++ [.result (.scanFailed (BitVec.ofNat 8 n) e)] } →
    (s.seq = .seqRx → s.rstate = .failed → s.rerr = some e → s1 = s → exec (.ping id) s = .next u) ∧
    (∀ f a rest, s.seq = .seqTx → s.txbuf = some f → s.inputs = .answer (.write a) :: rest →
      a ≠ .writeOk f.length → e = .transportWriteFailed →
      s1 = { s with inputs := rest, outputs := s.outputs ++ [.request (.txWrite f)] } →
      exec (.ping id) s = .next u) ∧
    (∀ bs, s.seq = .seqRx → s.rstate = .success → s.rxbuf = some bs → s.cfgReplyCheck = some .verify →
      s.pChkOk = some false → e = .replyChecksumMismatch → s1 = s → exec (.ping id) s = .next u)

/-- Between two items the host goes on or abandons (43_operations.md R206, decision D14; log 9). That it can go
on with SESSION_OPEN false, after a close between two items, is the model's reading (log 20). -/
def Obligations.HostGoesOnOrAbandonsBetweenItems : Prop :=
  ∀ (n hi : Nat) (s : State) (rest : List Input),
    s.seq = .seqIdle → s.scanActive = true → s.scanNext = some n → s.scanHi = some hi →
    (s.inputs = .scanAbandon :: rest →
      step s =
        .next { s with inputs := rest, scanActive := false, scanNext := none, scanHi := none, scanFound := none,
                       result := some .abandoned, outputs := s.outputs ++ [.result .abandoned] }) ∧
    (s.inputs = .scanContinue :: rest → n < hi →
      step s =
        .next { s with inputs := rest, curOp := some (.ping (BitVec.ofNat 8 n)), seq := .seqTx,
                       txbuf := some (encodePing (BitVec.ofNat 8 n)) }) ∧
    (s.inputs = .scanContinue :: rest → hi ≤ n →
      step s =
        .next { s with inputs := rest, scanActive := false, scanNext := none, scanHi := none, scanFound := none,
                       result := some .complete, outputs := s.outputs ++ [.result .complete] })

/-! ## Whole operations -/

/-- set_id, move_to and set_speed from command to result (43_operations.md sections 1 and 2, decision D10 on
the write count; log 5 on the steps). A valid one takes two steps and writes its frame once: Done where the
transport took every byte, TransportWriteFailed on any other answer, and no poll and no read. An invalid
operand is InvalidRange in one step, with no request. Every other register is as before. -/
def Obligations.WriteOnlyOperationsRunToTheirResult : Prop :=
  ∀ (i : Instr) (a : WriteAnswer) (s : State) (rest : List Input) (r : Result),
    i.isRequest = true → i.replyLength = none → s.admits → s.operationEnded →
    (i.wf = true → r = (if a = .writeOk (encode i).length then .done else .error .transportWriteFailed) →
      s.inputs = [.command (.op i), .answer (.write a)] ++ rest →
      runBlock 2 s =
        .next { s with inputs := rest, result := some r,
                       outputs := s.outputs ++ [.request (.txWrite (encode i))] ++ [.result r] }) ∧
    (i.wf = false → r = .error .invalidRange → s.inputs = .command (.op i) :: rest →
      runBlock 1 s = .next { s with inputs := rest, result := some r, outputs := s.outputs ++ [.result r] })

/-- ping from command to result (43_operations.md R201; decisions D9, D18, D19): one write, `k` timeouts under
RetryOnTimeout within budget, readiness, one read of 6; RESULT is whether the reply's id is the id pinged. A reset or close that is
already waiting would come before the last step (log 12, log 13), so `rest` begins with neither. -/
def Obligations.PingRunsToItsResult : Prop :=
  ∀ (id : Byte) (k m tm : Nat) (p : TimeoutPolicy) (c : ReplyCheck) (reply : Frame) (s : State) (rest : List Input),
    s.admits → s.operationEnded → s.cfgMaxRetries = some m → s.cfgPollTimeout = some tm →
    s.cfgTimeoutPolicy = some p → s.cfgReplyCheck = some c →
    k < m → (k = 0 ∨ p = .retryOnTimeout) → reply.length = 6 → (c = .trust ∨ chkOk reply = true) →
    preempts rest = false → s.inputs = .command (.op (.ping id)) :: (exchange 6 k reply ++ rest) →
    runBlock (k + 6) s =
      .next { s with inputs := rest, result := some (.bool (decide (reply[2]? = some id))),
                     outputs := s.outputs ++ exchangeRequests (encodePing id) tm (k + 1) 6 ++
                       [.result (.bool (decide (reply[2]? = some id)))] }

/-- get_position from command to result (43_operations.md R204; decisions D9, D13, D19). -/
def Obligations.GetPositionRunsToItsResult : Prop :=
  ∀ (id b0 b1 b2 b3 b4 b5 b6 b7 : Byte) (k m tm : Nat) (p : TimeoutPolicy) (c : ReplyCheck) (s : State)
      (rest : List Input),
    s.admits → s.operationEnded → s.cfgMaxRetries = some m → s.cfgPollTimeout = some tm →
    s.cfgTimeoutPolicy = some p → s.cfgReplyCheck = some c →
    k < m → (k = 0 ∨ p = .retryOnTimeout) →
    (c = .trust ∨ chkOk [b0, b1, b2, b3, b4, b5, b6, b7] = true) →
    preempts rest = false →
    s.inputs = .command (.op (.getPosition id)) :: (exchange 8 k [b0, b1, b2, b3, b4, b5, b6, b7] ++ rest) →
    runBlock (k + 6) s =
      .next { s with inputs := rest, result := some (.position (b5.toNat + 256 * b6.toNat)),
                     outputs := s.outputs ++ exchangeRequests (encodeGetPosition id) tm (k + 1) 8 ++
                       [.result (.position (b5.toNat + 256 * b6.toNat))] }

/-- If the transport never reports readiness, ping and get_position fail with TransportReadFailed after
exactly CFG_MAX_RETRIES polls under RetryOnTimeout, after one under AbortOnTimeout, and with no read
(42_poll_controller.md R174, 60_exceptions.md R244; decisions D7, D8). -/
def Obligations.SilentTransportExhaustsTheBudget : Prop :=
  ∀ (i : Instr) (n m tm polls : Nat) (p : TimeoutPolicy) (s : State) (rest : List Input),
    i.replyLength = some n → s.admits → s.operationEnded → s.cfgMaxRetries = some m →
    s.cfgPollTimeout = some tm → s.cfgTimeoutPolicy = some p → 1 ≤ m →
    polls = (if p = .retryOnTimeout then m else 1) → preempts rest = false →
    s.inputs = [.command (.op i), .answer (.write (.writeOk (encode i).length))] ++
      List.replicate polls (Input.answer (.poll .timeout)) ++ rest →
    runBlock (polls + 4) s =
      .next { s with inputs := rest, result := some (.error .transportReadFailed),
                     outputs := s.outputs ++ [.request (.txWrite (encode i))] ++
                       List.replicate polls (Output.request (.txPoll tm)) ++ [.result (.error .transportReadFailed)] }

/-- The controller's steps and the procedure ReadExact(N) agree (42_poll_controller.md R179, derived there):
whatever the transport answers, at most CFG_MAX_RETRIES + 2 steps from the invocation give the procedure's
outcome. -/
def Obligations.ControllerStepsMatchReadExact : Prop :=
  ∀ (i : Instr) (n m tm : Nat) (p : TimeoutPolicy) (s : State),
    i.replyLength = some n → s.seq = .seqRx → s.rstate = .idle → s.curOp = some i →
    s.cfgMaxRetries = some m → s.cfgPollTimeout = some tm → s.cfgTimeoutPolicy = some p → 1 ≤ m →
    (∀ x ∈ s.inputs, x ≠ .reset ∧ x ≠ .closeSession) →
    ∃ k, k ≤ m + 2 ∧ runBlock k s = readExact n m tm p s

/-- A scan whose pings are all answered (43_operations.md R206, decision D14): items in ascending order of id,
Found exactly where the reply carries the id, then Complete. That the host is asked after every item, the last
one too, is the model's reading (log 9, DEDUCED), and so is that the inner ping posts no Boolean of its own (log
10, DEDUCED): the inputs and the outputs rest on them. -/
def Obligations.AnsweredScanYieldsTheMatchingIds : Prop :=
  ∀ (lo hi m tm : Nat) (p : TimeoutPolicy) (c : ReplyCheck) (replies : List Frame) (s : State) (rest : List Input),
    s.admits → s.operationEnded → s.scanning → s.cfgMaxRetries = some m → s.cfgPollTimeout = some tm →
    s.cfgTimeoutPolicy = some p → s.cfgReplyCheck = some c → 1 ≤ m → lo ≤ hi → hi ≤ 256 →
    replies.length = hi - lo → (∀ r ∈ replies, r.length = 6 ∧ (c = .trust ∨ chkOk r = true)) →
    s.inputs = .command (.scan lo hi) :: (scanInputs replies ++ rest) →
    runBlock (1 + 6 * (hi - lo)) s =
      .next { s with inputs := rest, result := some .complete,
                     outputs := s.outputs ++ scanOutputs tm lo replies ++ [.result .complete] }

/-- Requests take turns (20_memory.md R58, R59): every step keeps the order one write, polls, at most one
read, result, in step with the registers, and an operation never has more polls than CFG_MAX_RETRIES. -/
def Obligations.RequestsTakeTurnsWithinTheBudget : Prop :=
  ∀ s t : State, Inv s → s.turn → step s = .next t →
    t.turn ∧ ∀ k, busPhase t.outputs = some (.polled k) → ∃ m, t.cfgMaxRetries = some m ∧ k ≤ m

/-- Every operation ends (43_operations.md R210, derived there; the premise is R279's duty): a busy block
whose outstanding request, if any, is answered next has a step, and each step leaves fewer to go. -/
def Obligations.AnsweredOperationsComeToAnEnd : Prop :=
  ∀ s : State, Inv s → s.seq ≠ .seqIdle → preempts s.inputs = false →
    (∀ q, s.outstanding = some q → answered q s.inputs = true) →
    ∃ t, step s = .next t ∧ t.stepsLeft < s.stepsLeft

/-- A scan as a whole ends (43_operations.md R206, R210, derived there; the premise on answers is R279's duty): with
SCAN_ACTIVE true, a ping in progress whose outstanding request, if any, is answered next, or an idle block whose
host chooses next (log 9: after every item), has a step, and each step leaves fewer to go. -/
def Obligations.AnsweredScansComeToAnEnd : Prop :=
  ∀ s : State, Inv s → s.scanActive = true → preempts s.inputs = false →
    (s.seq = .seqIdle → ∃ rest, s.inputs = .scanContinue :: rest ∨ s.inputs = .scanAbandon :: rest) →
    (∀ q, s.outstanding = some q → answered q s.inputs = true) →
    ∃ t, step s = .next t ∧ t.scanStepsLeft < s.scanStepsLeft
end

