-- ==== Sys2Proof/Laws/State.lean ====
section
/-! SUPPORT. What each update of the state gives in each field. -/

namespace Sys2Proof.Machine

/-- An input is taken. -/
def State.took (rest : List Input) (s : State) : State := { s with inputs := rest }

@[simp] theorem State.took_cfgMaxRetries (rest : List Input) (s : State) : (s.took rest).cfgMaxRetries = s.cfgMaxRetries := rfl
@[simp] theorem State.took_cfgPollTimeout (rest : List Input) (s : State) : (s.took rest).cfgPollTimeout = s.cfgPollTimeout := rfl
@[simp] theorem State.took_cfgTimeoutPolicy (rest : List Input) (s : State) : (s.took rest).cfgTimeoutPolicy = s.cfgTimeoutPolicy := rfl
@[simp] theorem State.took_cfgReplyCheck (rest : List Input) (s : State) : (s.took rest).cfgReplyCheck = s.cfgReplyCheck := rfl
@[simp] theorem State.took_sessionOpen (rest : List Input) (s : State) : (s.took rest).sessionOpen = s.sessionOpen := rfl
@[simp] theorem State.took_seq (rest : List Input) (s : State) : (s.took rest).seq = s.seq := rfl
@[simp] theorem State.took_curOp (rest : List Input) (s : State) : (s.took rest).curOp = s.curOp := rfl
@[simp] theorem State.took_txbuf (rest : List Input) (s : State) : (s.took rest).txbuf = s.txbuf := rfl
@[simp] theorem State.took_rxn (rest : List Input) (s : State) : (s.took rest).rxn = s.rxn := rfl
@[simp] theorem State.took_rxbuf (rest : List Input) (s : State) : (s.took rest).rxbuf = s.rxbuf := rfl
@[simp] theorem State.took_rstate (rest : List Input) (s : State) : (s.took rest).rstate = s.rstate := rfl
@[simp] theorem State.took_attempt (rest : List Input) (s : State) : (s.took rest).attempt = s.attempt := rfl
@[simp] theorem State.took_rerr (rest : List Input) (s : State) : (s.took rest).rerr = s.rerr := rfl
@[simp] theorem State.took_pHdrOk (rest : List Input) (s : State) : (s.took rest).pHdrOk = s.pHdrOk := rfl
@[simp] theorem State.took_pLenOk (rest : List Input) (s : State) : (s.took rest).pLenOk = s.pLenOk := rfl
@[simp] theorem State.took_pChkOk (rest : List Input) (s : State) : (s.took rest).pChkOk = s.pChkOk := rfl
@[simp] theorem State.took_scanActive (rest : List Input) (s : State) : (s.took rest).scanActive = s.scanActive := rfl
@[simp] theorem State.took_scanNext (rest : List Input) (s : State) : (s.took rest).scanNext = s.scanNext := rfl
@[simp] theorem State.took_scanHi (rest : List Input) (s : State) : (s.took rest).scanHi = s.scanHi := rfl
@[simp] theorem State.took_scanFound (rest : List Input) (s : State) : (s.took rest).scanFound = s.scanFound := rfl
@[simp] theorem State.took_result (rest : List Input) (s : State) : (s.took rest).result = s.result := rfl
@[simp] theorem State.took_inputs (rest : List Input) (s : State) : (s.took rest).inputs = rest := rfl
@[simp] theorem State.took_outputs (rest : List Input) (s : State) : (s.took rest).outputs = s.outputs := rfl

@[simp] theorem State.issue_cfgMaxRetries (q : Request) (s : State) : (s.issue q).cfgMaxRetries = s.cfgMaxRetries := rfl
@[simp] theorem State.issue_cfgPollTimeout (q : Request) (s : State) : (s.issue q).cfgPollTimeout = s.cfgPollTimeout := rfl
@[simp] theorem State.issue_cfgTimeoutPolicy (q : Request) (s : State) : (s.issue q).cfgTimeoutPolicy = s.cfgTimeoutPolicy := rfl
@[simp] theorem State.issue_cfgReplyCheck (q : Request) (s : State) : (s.issue q).cfgReplyCheck = s.cfgReplyCheck := rfl
@[simp] theorem State.issue_sessionOpen (q : Request) (s : State) : (s.issue q).sessionOpen = s.sessionOpen := rfl
@[simp] theorem State.issue_seq (q : Request) (s : State) : (s.issue q).seq = s.seq := rfl
@[simp] theorem State.issue_curOp (q : Request) (s : State) : (s.issue q).curOp = s.curOp := rfl
@[simp] theorem State.issue_txbuf (q : Request) (s : State) : (s.issue q).txbuf = s.txbuf := rfl
@[simp] theorem State.issue_rxn (q : Request) (s : State) : (s.issue q).rxn = s.rxn := rfl
@[simp] theorem State.issue_rxbuf (q : Request) (s : State) : (s.issue q).rxbuf = s.rxbuf := rfl
@[simp] theorem State.issue_rstate (q : Request) (s : State) : (s.issue q).rstate = s.rstate := rfl
@[simp] theorem State.issue_attempt (q : Request) (s : State) : (s.issue q).attempt = s.attempt := rfl
@[simp] theorem State.issue_rerr (q : Request) (s : State) : (s.issue q).rerr = s.rerr := rfl
@[simp] theorem State.issue_pHdrOk (q : Request) (s : State) : (s.issue q).pHdrOk = s.pHdrOk := rfl
@[simp] theorem State.issue_pLenOk (q : Request) (s : State) : (s.issue q).pLenOk = s.pLenOk := rfl
@[simp] theorem State.issue_pChkOk (q : Request) (s : State) : (s.issue q).pChkOk = s.pChkOk := rfl
@[simp] theorem State.issue_scanActive (q : Request) (s : State) : (s.issue q).scanActive = s.scanActive := rfl
@[simp] theorem State.issue_scanNext (q : Request) (s : State) : (s.issue q).scanNext = s.scanNext := rfl
@[simp] theorem State.issue_scanHi (q : Request) (s : State) : (s.issue q).scanHi = s.scanHi := rfl
@[simp] theorem State.issue_scanFound (q : Request) (s : State) : (s.issue q).scanFound = s.scanFound := rfl
@[simp] theorem State.issue_result (q : Request) (s : State) : (s.issue q).result = s.result := rfl
@[simp] theorem State.issue_inputs (q : Request) (s : State) : (s.issue q).inputs = s.inputs := rfl
@[simp] theorem State.issue_outputs (q : Request) (s : State) : (s.issue q).outputs = s.outputs ++ [.request q] := rfl

@[simp] theorem State.post_cfgMaxRetries (r : Result) (s : State) : (s.post r).cfgMaxRetries = s.cfgMaxRetries := rfl
@[simp] theorem State.post_cfgPollTimeout (r : Result) (s : State) : (s.post r).cfgPollTimeout = s.cfgPollTimeout := rfl
@[simp] theorem State.post_cfgTimeoutPolicy (r : Result) (s : State) : (s.post r).cfgTimeoutPolicy = s.cfgTimeoutPolicy := rfl
@[simp] theorem State.post_cfgReplyCheck (r : Result) (s : State) : (s.post r).cfgReplyCheck = s.cfgReplyCheck := rfl
@[simp] theorem State.post_sessionOpen (r : Result) (s : State) : (s.post r).sessionOpen = s.sessionOpen := rfl
@[simp] theorem State.post_seq (r : Result) (s : State) : (s.post r).seq = s.seq := rfl
@[simp] theorem State.post_curOp (r : Result) (s : State) : (s.post r).curOp = s.curOp := rfl
@[simp] theorem State.post_txbuf (r : Result) (s : State) : (s.post r).txbuf = s.txbuf := rfl
@[simp] theorem State.post_rxn (r : Result) (s : State) : (s.post r).rxn = s.rxn := rfl
@[simp] theorem State.post_rxbuf (r : Result) (s : State) : (s.post r).rxbuf = s.rxbuf := rfl
@[simp] theorem State.post_rstate (r : Result) (s : State) : (s.post r).rstate = s.rstate := rfl
@[simp] theorem State.post_attempt (r : Result) (s : State) : (s.post r).attempt = s.attempt := rfl
@[simp] theorem State.post_rerr (r : Result) (s : State) : (s.post r).rerr = s.rerr := rfl
@[simp] theorem State.post_pHdrOk (r : Result) (s : State) : (s.post r).pHdrOk = s.pHdrOk := rfl
@[simp] theorem State.post_pLenOk (r : Result) (s : State) : (s.post r).pLenOk = s.pLenOk := rfl
@[simp] theorem State.post_pChkOk (r : Result) (s : State) : (s.post r).pChkOk = s.pChkOk := rfl
@[simp] theorem State.post_scanActive (r : Result) (s : State) : (s.post r).scanActive = s.scanActive := rfl
@[simp] theorem State.post_scanNext (r : Result) (s : State) : (s.post r).scanNext = s.scanNext := rfl
@[simp] theorem State.post_scanHi (r : Result) (s : State) : (s.post r).scanHi = s.scanHi := rfl
@[simp] theorem State.post_scanFound (r : Result) (s : State) : (s.post r).scanFound = s.scanFound := rfl
@[simp] theorem State.post_result (r : Result) (s : State) : (s.post r).result = some r := rfl
@[simp] theorem State.post_inputs (r : Result) (s : State) : (s.post r).inputs = s.inputs := rfl
@[simp] theorem State.post_outputs (r : Result) (s : State) : (s.post r).outputs = s.outputs ++ [.result r] := rfl

@[simp] theorem State.endOperation_cfgMaxRetries (s : State) : s.endOperation.cfgMaxRetries = s.cfgMaxRetries := rfl
@[simp] theorem State.endOperation_cfgPollTimeout (s : State) : s.endOperation.cfgPollTimeout = s.cfgPollTimeout := rfl
@[simp] theorem State.endOperation_cfgTimeoutPolicy (s : State) : s.endOperation.cfgTimeoutPolicy = s.cfgTimeoutPolicy := rfl
@[simp] theorem State.endOperation_cfgReplyCheck (s : State) : s.endOperation.cfgReplyCheck = s.cfgReplyCheck := rfl
@[simp] theorem State.endOperation_sessionOpen (s : State) : s.endOperation.sessionOpen = s.sessionOpen := rfl
@[simp] theorem State.endOperation_seq (s : State) : s.endOperation.seq = .seqIdle := rfl
@[simp] theorem State.endOperation_curOp (s : State) : s.endOperation.curOp = none := rfl
@[simp] theorem State.endOperation_txbuf (s : State) : s.endOperation.txbuf = none := rfl
@[simp] theorem State.endOperation_rxn (s : State) : s.endOperation.rxn = none := rfl
@[simp] theorem State.endOperation_rxbuf (s : State) : s.endOperation.rxbuf = none := rfl
@[simp] theorem State.endOperation_rstate (s : State) : s.endOperation.rstate = .idle := rfl
@[simp] theorem State.endOperation_attempt (s : State) : s.endOperation.attempt = 0 := rfl
@[simp] theorem State.endOperation_rerr (s : State) : s.endOperation.rerr = none := rfl
@[simp] theorem State.endOperation_pHdrOk (s : State) : s.endOperation.pHdrOk = none := rfl
@[simp] theorem State.endOperation_pLenOk (s : State) : s.endOperation.pLenOk = none := rfl
@[simp] theorem State.endOperation_pChkOk (s : State) : s.endOperation.pChkOk = none := rfl
@[simp] theorem State.endOperation_scanActive (s : State) : s.endOperation.scanActive = s.scanActive := rfl
@[simp] theorem State.endOperation_scanNext (s : State) : s.endOperation.scanNext = s.scanNext := rfl
@[simp] theorem State.endOperation_scanHi (s : State) : s.endOperation.scanHi = s.scanHi := rfl
@[simp] theorem State.endOperation_scanFound (s : State) : s.endOperation.scanFound = s.scanFound := rfl
@[simp] theorem State.endOperation_result (s : State) : s.endOperation.result = s.result := rfl
@[simp] theorem State.endOperation_inputs (s : State) : s.endOperation.inputs = s.inputs := rfl
@[simp] theorem State.endOperation_outputs (s : State) : s.endOperation.outputs = s.outputs := rfl

@[simp] theorem State.endScan_cfgMaxRetries (s : State) : s.endScan.cfgMaxRetries = s.cfgMaxRetries := rfl
@[simp] theorem State.endScan_cfgPollTimeout (s : State) : s.endScan.cfgPollTimeout = s.cfgPollTimeout := rfl
@[simp] theorem State.endScan_cfgTimeoutPolicy (s : State) : s.endScan.cfgTimeoutPolicy = s.cfgTimeoutPolicy := rfl
@[simp] theorem State.endScan_cfgReplyCheck (s : State) : s.endScan.cfgReplyCheck = s.cfgReplyCheck := rfl
@[simp] theorem State.endScan_sessionOpen (s : State) : s.endScan.sessionOpen = s.sessionOpen := rfl
@[simp] theorem State.endScan_seq (s : State) : s.endScan.seq = s.seq := rfl
@[simp] theorem State.endScan_curOp (s : State) : s.endScan.curOp = s.curOp := rfl
@[simp] theorem State.endScan_txbuf (s : State) : s.endScan.txbuf = s.txbuf := rfl
@[simp] theorem State.endScan_rxn (s : State) : s.endScan.rxn = s.rxn := rfl
@[simp] theorem State.endScan_rxbuf (s : State) : s.endScan.rxbuf = s.rxbuf := rfl
@[simp] theorem State.endScan_rstate (s : State) : s.endScan.rstate = s.rstate := rfl
@[simp] theorem State.endScan_attempt (s : State) : s.endScan.attempt = s.attempt := rfl
@[simp] theorem State.endScan_rerr (s : State) : s.endScan.rerr = s.rerr := rfl
@[simp] theorem State.endScan_pHdrOk (s : State) : s.endScan.pHdrOk = s.pHdrOk := rfl
@[simp] theorem State.endScan_pLenOk (s : State) : s.endScan.pLenOk = s.pLenOk := rfl
@[simp] theorem State.endScan_pChkOk (s : State) : s.endScan.pChkOk = s.pChkOk := rfl
@[simp] theorem State.endScan_scanActive (s : State) : s.endScan.scanActive = false := rfl
@[simp] theorem State.endScan_scanNext (s : State) : s.endScan.scanNext = none := rfl
@[simp] theorem State.endScan_scanHi (s : State) : s.endScan.scanHi = none := rfl
@[simp] theorem State.endScan_scanFound (s : State) : s.endScan.scanFound = none := rfl
@[simp] theorem State.endScan_result (s : State) : s.endScan.result = s.result := rfl
@[simp] theorem State.endScan_inputs (s : State) : s.endScan.inputs = s.inputs := rfl
@[simp] theorem State.endScan_outputs (s : State) : s.endScan.outputs = s.outputs := rfl

@[simp] theorem State.transmit_cfgMaxRetries (i : Instr) (f : Frame) (s : State) : (s.transmit i f).cfgMaxRetries = s.cfgMaxRetries := rfl
@[simp] theorem State.transmit_cfgPollTimeout (i : Instr) (f : Frame) (s : State) : (s.transmit i f).cfgPollTimeout = s.cfgPollTimeout := rfl
@[simp] theorem State.transmit_cfgTimeoutPolicy (i : Instr) (f : Frame) (s : State) : (s.transmit i f).cfgTimeoutPolicy = s.cfgTimeoutPolicy := rfl
@[simp] theorem State.transmit_cfgReplyCheck (i : Instr) (f : Frame) (s : State) : (s.transmit i f).cfgReplyCheck = s.cfgReplyCheck := rfl
@[simp] theorem State.transmit_sessionOpen (i : Instr) (f : Frame) (s : State) : (s.transmit i f).sessionOpen = s.sessionOpen := rfl
@[simp] theorem State.transmit_seq (i : Instr) (f : Frame) (s : State) : (s.transmit i f).seq = .seqTx := rfl
@[simp] theorem State.transmit_curOp (i : Instr) (f : Frame) (s : State) : (s.transmit i f).curOp = some i := rfl
@[simp] theorem State.transmit_txbuf (i : Instr) (f : Frame) (s : State) : (s.transmit i f).txbuf = some f := rfl
@[simp] theorem State.transmit_rxn (i : Instr) (f : Frame) (s : State) : (s.transmit i f).rxn = s.rxn := rfl
@[simp] theorem State.transmit_rxbuf (i : Instr) (f : Frame) (s : State) : (s.transmit i f).rxbuf = s.rxbuf := rfl
@[simp] theorem State.transmit_rstate (i : Instr) (f : Frame) (s : State) : (s.transmit i f).rstate = s.rstate := rfl
@[simp] theorem State.transmit_attempt (i : Instr) (f : Frame) (s : State) : (s.transmit i f).attempt = s.attempt := rfl
@[simp] theorem State.transmit_rerr (i : Instr) (f : Frame) (s : State) : (s.transmit i f).rerr = s.rerr := rfl
@[simp] theorem State.transmit_pHdrOk (i : Instr) (f : Frame) (s : State) : (s.transmit i f).pHdrOk = s.pHdrOk := rfl
@[simp] theorem State.transmit_pLenOk (i : Instr) (f : Frame) (s : State) : (s.transmit i f).pLenOk = s.pLenOk := rfl
@[simp] theorem State.transmit_pChkOk (i : Instr) (f : Frame) (s : State) : (s.transmit i f).pChkOk = s.pChkOk := rfl
@[simp] theorem State.transmit_scanActive (i : Instr) (f : Frame) (s : State) : (s.transmit i f).scanActive = s.scanActive := rfl
@[simp] theorem State.transmit_scanNext (i : Instr) (f : Frame) (s : State) : (s.transmit i f).scanNext = s.scanNext := rfl
@[simp] theorem State.transmit_scanHi (i : Instr) (f : Frame) (s : State) : (s.transmit i f).scanHi = s.scanHi := rfl
@[simp] theorem State.transmit_scanFound (i : Instr) (f : Frame) (s : State) : (s.transmit i f).scanFound = s.scanFound := rfl
@[simp] theorem State.transmit_result (i : Instr) (f : Frame) (s : State) : (s.transmit i f).result = s.result := rfl
@[simp] theorem State.transmit_inputs (i : Instr) (f : Frame) (s : State) : (s.transmit i f).inputs = s.inputs := rfl
@[simp] theorem State.transmit_outputs (i : Instr) (f : Frame) (s : State) : (s.transmit i f).outputs = s.outputs := rfl

@[simp] theorem State.invokeRead_cfgMaxRetries (n : Nat) (s : State) : (s.invokeRead n).cfgMaxRetries = s.cfgMaxRetries := rfl
@[simp] theorem State.invokeRead_cfgPollTimeout (n : Nat) (s : State) : (s.invokeRead n).cfgPollTimeout = s.cfgPollTimeout := rfl
@[simp] theorem State.invokeRead_cfgTimeoutPolicy (n : Nat) (s : State) : (s.invokeRead n).cfgTimeoutPolicy = s.cfgTimeoutPolicy := rfl
@[simp] theorem State.invokeRead_cfgReplyCheck (n : Nat) (s : State) : (s.invokeRead n).cfgReplyCheck = s.cfgReplyCheck := rfl
@[simp] theorem State.invokeRead_sessionOpen (n : Nat) (s : State) : (s.invokeRead n).sessionOpen = s.sessionOpen := rfl
@[simp] theorem State.invokeRead_seq (n : Nat) (s : State) : (s.invokeRead n).seq = s.seq := rfl
@[simp] theorem State.invokeRead_curOp (n : Nat) (s : State) : (s.invokeRead n).curOp = s.curOp := rfl
@[simp] theorem State.invokeRead_txbuf (n : Nat) (s : State) : (s.invokeRead n).txbuf = s.txbuf := rfl
@[simp] theorem State.invokeRead_rxn (n : Nat) (s : State) : (s.invokeRead n).rxn = some n := rfl
@[simp] theorem State.invokeRead_rxbuf (n : Nat) (s : State) : (s.invokeRead n).rxbuf = s.rxbuf := rfl
@[simp] theorem State.invokeRead_rstate (n : Nat) (s : State) : (s.invokeRead n).rstate = .polling := rfl
@[simp] theorem State.invokeRead_attempt (n : Nat) (s : State) : (s.invokeRead n).attempt = 0 := rfl
@[simp] theorem State.invokeRead_rerr (n : Nat) (s : State) : (s.invokeRead n).rerr = none := rfl
@[simp] theorem State.invokeRead_pHdrOk (n : Nat) (s : State) : (s.invokeRead n).pHdrOk = s.pHdrOk := rfl
@[simp] theorem State.invokeRead_pLenOk (n : Nat) (s : State) : (s.invokeRead n).pLenOk = s.pLenOk := rfl
@[simp] theorem State.invokeRead_pChkOk (n : Nat) (s : State) : (s.invokeRead n).pChkOk = s.pChkOk := rfl
@[simp] theorem State.invokeRead_scanActive (n : Nat) (s : State) : (s.invokeRead n).scanActive = s.scanActive := rfl
@[simp] theorem State.invokeRead_scanNext (n : Nat) (s : State) : (s.invokeRead n).scanNext = s.scanNext := rfl
@[simp] theorem State.invokeRead_scanHi (n : Nat) (s : State) : (s.invokeRead n).scanHi = s.scanHi := rfl
@[simp] theorem State.invokeRead_scanFound (n : Nat) (s : State) : (s.invokeRead n).scanFound = s.scanFound := rfl
@[simp] theorem State.invokeRead_result (n : Nat) (s : State) : (s.invokeRead n).result = s.result := rfl
@[simp] theorem State.invokeRead_inputs (n : Nat) (s : State) : (s.invokeRead n).inputs = s.inputs := rfl
@[simp] theorem State.invokeRead_outputs (n : Nat) (s : State) : (s.invokeRead n).outputs = s.outputs := rfl

@[simp] theorem State.failRead_cfgMaxRetries (e : ErrorKind) (s : State) : (s.failRead e).cfgMaxRetries = s.cfgMaxRetries := rfl
@[simp] theorem State.failRead_cfgPollTimeout (e : ErrorKind) (s : State) : (s.failRead e).cfgPollTimeout = s.cfgPollTimeout := rfl
@[simp] theorem State.failRead_cfgTimeoutPolicy (e : ErrorKind) (s : State) : (s.failRead e).cfgTimeoutPolicy = s.cfgTimeoutPolicy := rfl
@[simp] theorem State.failRead_cfgReplyCheck (e : ErrorKind) (s : State) : (s.failRead e).cfgReplyCheck = s.cfgReplyCheck := rfl
@[simp] theorem State.failRead_sessionOpen (e : ErrorKind) (s : State) : (s.failRead e).sessionOpen = s.sessionOpen := rfl
@[simp] theorem State.failRead_seq (e : ErrorKind) (s : State) : (s.failRead e).seq = s.seq := rfl
@[simp] theorem State.failRead_curOp (e : ErrorKind) (s : State) : (s.failRead e).curOp = s.curOp := rfl
@[simp] theorem State.failRead_txbuf (e : ErrorKind) (s : State) : (s.failRead e).txbuf = s.txbuf := rfl
@[simp] theorem State.failRead_rxn (e : ErrorKind) (s : State) : (s.failRead e).rxn = s.rxn := rfl
@[simp] theorem State.failRead_rxbuf (e : ErrorKind) (s : State) : (s.failRead e).rxbuf = s.rxbuf := rfl
@[simp] theorem State.failRead_rstate (e : ErrorKind) (s : State) : (s.failRead e).rstate = .failed := rfl
@[simp] theorem State.failRead_attempt (e : ErrorKind) (s : State) : (s.failRead e).attempt = s.attempt := rfl
@[simp] theorem State.failRead_rerr (e : ErrorKind) (s : State) : (s.failRead e).rerr = some e := rfl
@[simp] theorem State.failRead_pHdrOk (e : ErrorKind) (s : State) : (s.failRead e).pHdrOk = s.pHdrOk := rfl
@[simp] theorem State.failRead_pLenOk (e : ErrorKind) (s : State) : (s.failRead e).pLenOk = s.pLenOk := rfl
@[simp] theorem State.failRead_pChkOk (e : ErrorKind) (s : State) : (s.failRead e).pChkOk = s.pChkOk := rfl
@[simp] theorem State.failRead_scanActive (e : ErrorKind) (s : State) : (s.failRead e).scanActive = s.scanActive := rfl
@[simp] theorem State.failRead_scanNext (e : ErrorKind) (s : State) : (s.failRead e).scanNext = s.scanNext := rfl
@[simp] theorem State.failRead_scanHi (e : ErrorKind) (s : State) : (s.failRead e).scanHi = s.scanHi := rfl
@[simp] theorem State.failRead_scanFound (e : ErrorKind) (s : State) : (s.failRead e).scanFound = s.scanFound := rfl
@[simp] theorem State.failRead_result (e : ErrorKind) (s : State) : (s.failRead e).result = s.result := rfl
@[simp] theorem State.failRead_inputs (e : ErrorKind) (s : State) : (s.failRead e).inputs = s.inputs := rfl
@[simp] theorem State.failRead_outputs (e : ErrorKind) (s : State) : (s.failRead e).outputs = s.outputs := rfl

@[simp] theorem State.countPoll_cfgMaxRetries (t : Nat) (s : State) : (s.countPoll t).cfgMaxRetries = s.cfgMaxRetries := rfl
@[simp] theorem State.countPoll_cfgPollTimeout (t : Nat) (s : State) : (s.countPoll t).cfgPollTimeout = s.cfgPollTimeout := rfl
@[simp] theorem State.countPoll_cfgTimeoutPolicy (t : Nat) (s : State) : (s.countPoll t).cfgTimeoutPolicy = s.cfgTimeoutPolicy := rfl
@[simp] theorem State.countPoll_cfgReplyCheck (t : Nat) (s : State) : (s.countPoll t).cfgReplyCheck = s.cfgReplyCheck := rfl
@[simp] theorem State.countPoll_sessionOpen (t : Nat) (s : State) : (s.countPoll t).sessionOpen = s.sessionOpen := rfl
@[simp] theorem State.countPoll_seq (t : Nat) (s : State) : (s.countPoll t).seq = s.seq := rfl
@[simp] theorem State.countPoll_curOp (t : Nat) (s : State) : (s.countPoll t).curOp = s.curOp := rfl
@[simp] theorem State.countPoll_txbuf (t : Nat) (s : State) : (s.countPoll t).txbuf = s.txbuf := rfl
@[simp] theorem State.countPoll_rxn (t : Nat) (s : State) : (s.countPoll t).rxn = s.rxn := rfl
@[simp] theorem State.countPoll_rxbuf (t : Nat) (s : State) : (s.countPoll t).rxbuf = s.rxbuf := rfl
@[simp] theorem State.countPoll_rstate (t : Nat) (s : State) : (s.countPoll t).rstate = s.rstate := rfl
@[simp] theorem State.countPoll_attempt (t : Nat) (s : State) : (s.countPoll t).attempt = s.attempt + 1 := rfl
@[simp] theorem State.countPoll_rerr (t : Nat) (s : State) : (s.countPoll t).rerr = s.rerr := rfl
@[simp] theorem State.countPoll_pHdrOk (t : Nat) (s : State) : (s.countPoll t).pHdrOk = s.pHdrOk := rfl
@[simp] theorem State.countPoll_pLenOk (t : Nat) (s : State) : (s.countPoll t).pLenOk = s.pLenOk := rfl
@[simp] theorem State.countPoll_pChkOk (t : Nat) (s : State) : (s.countPoll t).pChkOk = s.pChkOk := rfl
@[simp] theorem State.countPoll_scanActive (t : Nat) (s : State) : (s.countPoll t).scanActive = s.scanActive := rfl
@[simp] theorem State.countPoll_scanNext (t : Nat) (s : State) : (s.countPoll t).scanNext = s.scanNext := rfl
@[simp] theorem State.countPoll_scanHi (t : Nat) (s : State) : (s.countPoll t).scanHi = s.scanHi := rfl
@[simp] theorem State.countPoll_scanFound (t : Nat) (s : State) : (s.countPoll t).scanFound = s.scanFound := rfl
@[simp] theorem State.countPoll_result (t : Nat) (s : State) : (s.countPoll t).result = s.result := rfl
@[simp] theorem State.countPoll_inputs (t : Nat) (s : State) : (s.countPoll t).inputs = s.inputs := rfl
@[simp] theorem State.countPoll_outputs (t : Nat) (s : State) : (s.countPoll t).outputs = s.outputs ++ [.request (.txPoll t)] := rfl

@[simp] theorem State.takeReply_cfgMaxRetries (bs : Frame) (s : State) : (s.takeReply bs).cfgMaxRetries = s.cfgMaxRetries := rfl
@[simp] theorem State.takeReply_cfgPollTimeout (bs : Frame) (s : State) : (s.takeReply bs).cfgPollTimeout = s.cfgPollTimeout := rfl
@[simp] theorem State.takeReply_cfgTimeoutPolicy (bs : Frame) (s : State) : (s.takeReply bs).cfgTimeoutPolicy = s.cfgTimeoutPolicy := rfl
@[simp] theorem State.takeReply_cfgReplyCheck (bs : Frame) (s : State) : (s.takeReply bs).cfgReplyCheck = s.cfgReplyCheck := rfl
@[simp] theorem State.takeReply_sessionOpen (bs : Frame) (s : State) : (s.takeReply bs).sessionOpen = s.sessionOpen := rfl
@[simp] theorem State.takeReply_seq (bs : Frame) (s : State) : (s.takeReply bs).seq = s.seq := rfl
@[simp] theorem State.takeReply_curOp (bs : Frame) (s : State) : (s.takeReply bs).curOp = s.curOp := rfl
@[simp] theorem State.takeReply_txbuf (bs : Frame) (s : State) : (s.takeReply bs).txbuf = s.txbuf := rfl
@[simp] theorem State.takeReply_rxn (bs : Frame) (s : State) : (s.takeReply bs).rxn = s.rxn := rfl
@[simp] theorem State.takeReply_rxbuf (bs : Frame) (s : State) : (s.takeReply bs).rxbuf = some bs := rfl
@[simp] theorem State.takeReply_rstate (bs : Frame) (s : State) : (s.takeReply bs).rstate = .success := rfl
@[simp] theorem State.takeReply_attempt (bs : Frame) (s : State) : (s.takeReply bs).attempt = s.attempt := rfl
@[simp] theorem State.takeReply_rerr (bs : Frame) (s : State) : (s.takeReply bs).rerr = s.rerr := rfl
@[simp] theorem State.takeReply_pHdrOk (bs : Frame) (s : State) : (s.takeReply bs).pHdrOk = some (hdrOk bs) := rfl
@[simp] theorem State.takeReply_pLenOk (bs : Frame) (s : State) : (s.takeReply bs).pLenOk = some (lenOk bs) := rfl
@[simp] theorem State.takeReply_pChkOk (bs : Frame) (s : State) : (s.takeReply bs).pChkOk = some (chkOk bs) := rfl
@[simp] theorem State.takeReply_scanActive (bs : Frame) (s : State) : (s.takeReply bs).scanActive = s.scanActive := rfl
@[simp] theorem State.takeReply_scanNext (bs : Frame) (s : State) : (s.takeReply bs).scanNext = s.scanNext := rfl
@[simp] theorem State.takeReply_scanHi (bs : Frame) (s : State) : (s.takeReply bs).scanHi = s.scanHi := rfl
@[simp] theorem State.takeReply_scanFound (bs : Frame) (s : State) : (s.takeReply bs).scanFound = s.scanFound := rfl
@[simp] theorem State.takeReply_result (bs : Frame) (s : State) : (s.takeReply bs).result = s.result := rfl
@[simp] theorem State.takeReply_inputs (bs : Frame) (s : State) : (s.takeReply bs).inputs = s.inputs := rfl
@[simp] theorem State.takeReply_outputs (bs : Frame) (s : State) : (s.takeReply bs).outputs = s.outputs := rfl

@[simp] theorem State.beginScan_cfgMaxRetries (lo hi : Nat) (s : State) : (s.beginScan lo hi).cfgMaxRetries = s.cfgMaxRetries := rfl
@[simp] theorem State.beginScan_cfgPollTimeout (lo hi : Nat) (s : State) : (s.beginScan lo hi).cfgPollTimeout = s.cfgPollTimeout := rfl
@[simp] theorem State.beginScan_cfgTimeoutPolicy (lo hi : Nat) (s : State) : (s.beginScan lo hi).cfgTimeoutPolicy = s.cfgTimeoutPolicy := rfl
@[simp] theorem State.beginScan_cfgReplyCheck (lo hi : Nat) (s : State) : (s.beginScan lo hi).cfgReplyCheck = s.cfgReplyCheck := rfl
@[simp] theorem State.beginScan_sessionOpen (lo hi : Nat) (s : State) : (s.beginScan lo hi).sessionOpen = s.sessionOpen := rfl
@[simp] theorem State.beginScan_seq (lo hi : Nat) (s : State) : (s.beginScan lo hi).seq = s.seq := rfl
@[simp] theorem State.beginScan_curOp (lo hi : Nat) (s : State) : (s.beginScan lo hi).curOp = s.curOp := rfl
@[simp] theorem State.beginScan_txbuf (lo hi : Nat) (s : State) : (s.beginScan lo hi).txbuf = s.txbuf := rfl
@[simp] theorem State.beginScan_rxn (lo hi : Nat) (s : State) : (s.beginScan lo hi).rxn = s.rxn := rfl
@[simp] theorem State.beginScan_rxbuf (lo hi : Nat) (s : State) : (s.beginScan lo hi).rxbuf = s.rxbuf := rfl
@[simp] theorem State.beginScan_rstate (lo hi : Nat) (s : State) : (s.beginScan lo hi).rstate = s.rstate := rfl
@[simp] theorem State.beginScan_attempt (lo hi : Nat) (s : State) : (s.beginScan lo hi).attempt = s.attempt := rfl
@[simp] theorem State.beginScan_rerr (lo hi : Nat) (s : State) : (s.beginScan lo hi).rerr = s.rerr := rfl
@[simp] theorem State.beginScan_pHdrOk (lo hi : Nat) (s : State) : (s.beginScan lo hi).pHdrOk = s.pHdrOk := rfl
@[simp] theorem State.beginScan_pLenOk (lo hi : Nat) (s : State) : (s.beginScan lo hi).pLenOk = s.pLenOk := rfl
@[simp] theorem State.beginScan_pChkOk (lo hi : Nat) (s : State) : (s.beginScan lo hi).pChkOk = s.pChkOk := rfl
@[simp] theorem State.beginScan_scanActive (lo hi : Nat) (s : State) : (s.beginScan lo hi).scanActive = true := rfl
@[simp] theorem State.beginScan_scanNext (lo hi : Nat) (s : State) : (s.beginScan lo hi).scanNext = some lo := rfl
@[simp] theorem State.beginScan_scanHi (lo hi : Nat) (s : State) : (s.beginScan lo hi).scanHi = some hi := rfl
@[simp] theorem State.beginScan_scanFound (lo hi : Nat) (s : State) : (s.beginScan lo hi).scanFound = some [] := rfl
@[simp] theorem State.beginScan_result (lo hi : Nat) (s : State) : (s.beginScan lo hi).result = s.result := rfl
@[simp] theorem State.beginScan_inputs (lo hi : Nat) (s : State) : (s.beginScan lo hi).inputs = s.inputs := rfl
@[simp] theorem State.beginScan_outputs (lo hi : Nat) (s : State) : (s.beginScan lo hi).outputs = s.outputs := rfl

@[simp] theorem State.nextItem_cfgMaxRetries (n : Nat) (f : Option (List Byte)) (s : State) : (s.nextItem n f).cfgMaxRetries = s.cfgMaxRetries := rfl
@[simp] theorem State.nextItem_cfgPollTimeout (n : Nat) (f : Option (List Byte)) (s : State) : (s.nextItem n f).cfgPollTimeout = s.cfgPollTimeout := rfl
@[simp] theorem State.nextItem_cfgTimeoutPolicy (n : Nat) (f : Option (List Byte)) (s : State) : (s.nextItem n f).cfgTimeoutPolicy = s.cfgTimeoutPolicy := rfl
@[simp] theorem State.nextItem_cfgReplyCheck (n : Nat) (f : Option (List Byte)) (s : State) : (s.nextItem n f).cfgReplyCheck = s.cfgReplyCheck := rfl
@[simp] theorem State.nextItem_sessionOpen (n : Nat) (f : Option (List Byte)) (s : State) : (s.nextItem n f).sessionOpen = s.sessionOpen := rfl
@[simp] theorem State.nextItem_seq (n : Nat) (f : Option (List Byte)) (s : State) : (s.nextItem n f).seq = s.seq := rfl
@[simp] theorem State.nextItem_curOp (n : Nat) (f : Option (List Byte)) (s : State) : (s.nextItem n f).curOp = s.curOp := rfl
@[simp] theorem State.nextItem_txbuf (n : Nat) (f : Option (List Byte)) (s : State) : (s.nextItem n f).txbuf = s.txbuf := rfl
@[simp] theorem State.nextItem_rxn (n : Nat) (f : Option (List Byte)) (s : State) : (s.nextItem n f).rxn = s.rxn := rfl
@[simp] theorem State.nextItem_rxbuf (n : Nat) (f : Option (List Byte)) (s : State) : (s.nextItem n f).rxbuf = s.rxbuf := rfl
@[simp] theorem State.nextItem_rstate (n : Nat) (f : Option (List Byte)) (s : State) : (s.nextItem n f).rstate = s.rstate := rfl
@[simp] theorem State.nextItem_attempt (n : Nat) (f : Option (List Byte)) (s : State) : (s.nextItem n f).attempt = s.attempt := rfl
@[simp] theorem State.nextItem_rerr (n : Nat) (f : Option (List Byte)) (s : State) : (s.nextItem n f).rerr = s.rerr := rfl
@[simp] theorem State.nextItem_pHdrOk (n : Nat) (f : Option (List Byte)) (s : State) : (s.nextItem n f).pHdrOk = s.pHdrOk := rfl
@[simp] theorem State.nextItem_pLenOk (n : Nat) (f : Option (List Byte)) (s : State) : (s.nextItem n f).pLenOk = s.pLenOk := rfl
@[simp] theorem State.nextItem_pChkOk (n : Nat) (f : Option (List Byte)) (s : State) : (s.nextItem n f).pChkOk = s.pChkOk := rfl
@[simp] theorem State.nextItem_scanActive (n : Nat) (f : Option (List Byte)) (s : State) : (s.nextItem n f).scanActive = s.scanActive := rfl
@[simp] theorem State.nextItem_scanNext (n : Nat) (f : Option (List Byte)) (s : State) : (s.nextItem n f).scanNext = some (n + 1) := rfl
@[simp] theorem State.nextItem_scanHi (n : Nat) (f : Option (List Byte)) (s : State) : (s.nextItem n f).scanHi = s.scanHi := rfl
@[simp] theorem State.nextItem_scanFound (n : Nat) (f : Option (List Byte)) (s : State) : (s.nextItem n f).scanFound = f := rfl
@[simp] theorem State.nextItem_result (n : Nat) (f : Option (List Byte)) (s : State) : (s.nextItem n f).result = s.result := rfl
@[simp] theorem State.nextItem_inputs (n : Nat) (f : Option (List Byte)) (s : State) : (s.nextItem n f).inputs = s.inputs := rfl
@[simp] theorem State.nextItem_outputs (n : Nat) (f : Option (List Byte)) (s : State) : (s.nextItem n f).outputs = s.outputs := rfl

@[simp] theorem State.openSession_cfgMaxRetries (m t : Nat) (p : TimeoutPolicy) (c : ReplyCheck) (s : State) : (s.openSession m t p c).cfgMaxRetries = some m := rfl
@[simp] theorem State.openSession_cfgPollTimeout (m t : Nat) (p : TimeoutPolicy) (c : ReplyCheck) (s : State) : (s.openSession m t p c).cfgPollTimeout = some t := rfl
@[simp] theorem State.openSession_cfgTimeoutPolicy (m t : Nat) (p : TimeoutPolicy) (c : ReplyCheck) (s : State) : (s.openSession m t p c).cfgTimeoutPolicy = some p := rfl
@[simp] theorem State.openSession_cfgReplyCheck (m t : Nat) (p : TimeoutPolicy) (c : ReplyCheck) (s : State) : (s.openSession m t p c).cfgReplyCheck = some c := rfl
@[simp] theorem State.openSession_sessionOpen (m t : Nat) (p : TimeoutPolicy) (c : ReplyCheck) (s : State) : (s.openSession m t p c).sessionOpen = true := rfl
@[simp] theorem State.openSession_seq (m t : Nat) (p : TimeoutPolicy) (c : ReplyCheck) (s : State) : (s.openSession m t p c).seq = .seqIdle := rfl
@[simp] theorem State.openSession_curOp (m t : Nat) (p : TimeoutPolicy) (c : ReplyCheck) (s : State) : (s.openSession m t p c).curOp = none := rfl
@[simp] theorem State.openSession_txbuf (m t : Nat) (p : TimeoutPolicy) (c : ReplyCheck) (s : State) : (s.openSession m t p c).txbuf = none := rfl
@[simp] theorem State.openSession_rxn (m t : Nat) (p : TimeoutPolicy) (c : ReplyCheck) (s : State) : (s.openSession m t p c).rxn = none := rfl
@[simp] theorem State.openSession_rxbuf (m t : Nat) (p : TimeoutPolicy) (c : ReplyCheck) (s : State) : (s.openSession m t p c).rxbuf = none := rfl
@[simp] theorem State.openSession_rstate (m t : Nat) (p : TimeoutPolicy) (c : ReplyCheck) (s : State) : (s.openSession m t p c).rstate = .idle := rfl
@[simp] theorem State.openSession_attempt (m t : Nat) (p : TimeoutPolicy) (c : ReplyCheck) (s : State) : (s.openSession m t p c).attempt = 0 := rfl
@[simp] theorem State.openSession_rerr (m t : Nat) (p : TimeoutPolicy) (c : ReplyCheck) (s : State) : (s.openSession m t p c).rerr = none := rfl
@[simp] theorem State.openSession_pHdrOk (m t : Nat) (p : TimeoutPolicy) (c : ReplyCheck) (s : State) : (s.openSession m t p c).pHdrOk = none := rfl
@[simp] theorem State.openSession_pLenOk (m t : Nat) (p : TimeoutPolicy) (c : ReplyCheck) (s : State) : (s.openSession m t p c).pLenOk = none := rfl
@[simp] theorem State.openSession_pChkOk (m t : Nat) (p : TimeoutPolicy) (c : ReplyCheck) (s : State) : (s.openSession m t p c).pChkOk = none := rfl
@[simp] theorem State.openSession_scanActive (m t : Nat) (p : TimeoutPolicy) (c : ReplyCheck) (s : State) : (s.openSession m t p c).scanActive = false := rfl
@[simp] theorem State.openSession_scanNext (m t : Nat) (p : TimeoutPolicy) (c : ReplyCheck) (s : State) : (s.openSession m t p c).scanNext = none := rfl
@[simp] theorem State.openSession_scanHi (m t : Nat) (p : TimeoutPolicy) (c : ReplyCheck) (s : State) : (s.openSession m t p c).scanHi = none := rfl
@[simp] theorem State.openSession_scanFound (m t : Nat) (p : TimeoutPolicy) (c : ReplyCheck) (s : State) : (s.openSession m t p c).scanFound = none := rfl
@[simp] theorem State.openSession_result (m t : Nat) (p : TimeoutPolicy) (c : ReplyCheck) (s : State) : (s.openSession m t p c).result = none := rfl
@[simp] theorem State.openSession_inputs (m t : Nat) (p : TimeoutPolicy) (c : ReplyCheck) (s : State) : (s.openSession m t p c).inputs = s.inputs := rfl
@[simp] theorem State.openSession_outputs (m t : Nat) (p : TimeoutPolicy) (c : ReplyCheck) (s : State) : (s.openSession m t p c).outputs = s.outputs := rfl

end Sys2Proof.Machine
end

