-- ==== Sys2Proof/Laws/Ops.lean ====
section
/-! SUPPORT. For each shared operation, everything it can do when it answers a next state. -/

namespace Sys2Proof.Machine

theorem need_next {α : Type} {r : Reg} {v : Option α} {k : α → Out} {t : State} :
    need r v k = .next t ↔ ∃ a, v = some a ∧ k a = .next t := by
  cases v <;> simp [need]

@[simp] theorem need_some {α : Type} (r : Reg) (a : α) (k : α → Out) : need r (some a) k = k a := rfl

@[simp] theorem finishOp_eq (r : Result) (s : State) : finishOp r s = .next (s.endOperation.post r) := rfl

theorem guarded_next {s t : State} {k : State → Out} : guarded s k = .next t ↔ s.admits ∧ k s = .next t := by
  unfold guarded State.admits
  cases s.sessionOpen <;> cases s.seq <;> cases s.scanActive <;> simp

theorem awaitAnswer_next {q : Request} {s t : State} {k : Answer → State → Out} :
    awaitAnswer q s k = .next t ↔
      ∃ a rest, s.inputs = .answer a :: rest ∧ k a { s with inputs := rest } = .next t := by
  unfold awaitAnswer
  split <;> simp_all

theorem raise_next {e : ErrorKind} {s t : State} :
    raise e s = .next t ↔
      (s.scanActive = false ∧ t = s.endOperation.post (.error e)) ∨
      (∃ n, s.scanActive = true ∧ s.scanNext = some n ∧
        t = s.endOperation.endScan.post (.scanFailed (scanId n) e)) := by
  unfold raise
  cases s.scanActive <;> simp [need_next, eq_comm (a := t)]

theorem txPhase_next {k : State → Out} {s t : State} :
    txPhase k s = .next t ↔
      ∃ f a rest, s.txbuf = some f ∧ s.inputs = .answer (.write a) :: rest ∧
        ((a = .writeOk f.length ∧ k (State.issue (.txWrite f) { s with inputs := rest }) = .next t) ∨
         (a ≠ .writeOk f.length ∧
          raise .transportWriteFailed (State.issue (.txWrite f) { s with inputs := rest }) = .next t)) := by
  unfold txPhase
  simp only [need_next, awaitAnswer_next]
  constructor
  · rintro ⟨f, hf, a, rest, hin, h⟩
    cases a with
    | write w =>
      refine ⟨f, w, rest, hf, hin, ?_⟩
      cases w with
      | writeOk c => by_cases hc : c = f.length <;> simp_all
      | writeErr => exact .inr ⟨by simp, h⟩
    | poll p => simp at h
    | read r => simp at h
  · rintro ⟨f, a, rest, hf, hin, h⟩
    refine ⟨f, hf, .write a, rest, hin, ?_⟩
    cases a with
    | writeOk c => by_cases hc : c = f.length <;> simp_all
    | writeErr => simpa using h

theorem opPhase_next {i : Instr} {start tx rx : State → Out} {s t : State} :
    opPhase i start tx rx s = .next t ↔
      (s.admits ∧ start s = .next t) ∨
      (s.seq = .seqTx ∧ s.curOp = some i ∧ tx s = .next t) ∨
      (s.seq = .seqRx ∧ s.curOp = some i ∧ rx s = .next t) := by
  unfold opPhase
  cases hs : s.seq <;> by_cases hc : s.curOp = some i <;> simp [guarded_next, State.admits, hs, hc]

theorem startChecked_next {i : Instr} {r : Except ErrorKind Frame} {s t : State} :
    startChecked i r s = .next t ↔
      (∃ f, r = .ok f ∧ t = s.transmit i f) ∨ (∃ e, r = .error e ∧ raise e { s with curOp := some i } = .next t) := by
  cases r <;> simp [startChecked, eq_comm (a := t)]

theorem pollAnswer_next {m : Nat} {a : PollAnswer} {s t : State} :
    pollAnswer m a s = .next t ↔
      (a = .pollErr ∧ t = s.failRead .transportPollFailed) ∨
      (a = .ready ∧ t = { s with rstate := .reading }) ∨
      (a = .timeout ∧ s.cfgTimeoutPolicy = some .retryOnTimeout ∧ s.attempt < m ∧ t = s) ∨
      (a = .timeout ∧
        (s.cfgTimeoutPolicy = some .abortOnTimeout ∨
          s.cfgTimeoutPolicy = some .retryOnTimeout ∧ ¬ s.attempt < m) ∧
        t = s.failRead .transportReadFailed) := by
  cases a with
  | pollErr => simp [pollAnswer, eq_comm (a := t)]
  | ready => simp [pollAnswer, eq_comm (a := t)]
  | timeout =>
    cases hp : s.cfgTimeoutPolicy with
    | none => simp [pollAnswer, need, hp]
    | some p =>
      cases p
      · simp [pollAnswer, need, hp, eq_comm (a := t)]
      · by_cases h : s.attempt < m <;> simp [pollAnswer, need, hp, h, eq_comm (a := t)]

theorem pollStep_next {s t : State} :
    pollStep s = .next t ↔
      ∃ m tm p rest, s.cfgMaxRetries = some m ∧ s.cfgPollTimeout = some tm ∧ s.attempt < m ∧
        s.inputs = .answer (.poll p) :: rest ∧
        pollAnswer m p (State.countPoll tm { s with inputs := rest }) = .next t := by
  unfold pollStep
  simp only [need_next]
  constructor
  · rintro ⟨m, hm, tm, htm, h⟩
    split at h
    · obtain ⟨a, rest, hin, h⟩ := awaitAnswer_next.mp h
      cases a with
      | poll p => exact ⟨m, tm, p, rest, hm, htm, ‹_›, hin, h⟩
      | write w => simp at h
      | read r => simp at h
    · simp at h
  · rintro ⟨m, tm, p, rest, hm, htm, hlt, hin, h⟩
    refine ⟨m, hm, tm, htm, ?_⟩
    rw [if_pos hlt]
    exact awaitAnswer_next.mpr ⟨_, _, hin, h⟩

theorem readAnswer_next {a : ReadAnswer} {s t : State} :
    readAnswer a s = .next t ↔
      ∃ n, s.rxn = some n ∧
        ((∃ bs, a = .readOk bs ∧ bs.length = n ∧ t = (s.issue (.txRead n)).takeReply bs) ∨
         ((∀ bs, a = .readOk bs → bs.length ≠ n) ∧
          t = (s.issue (.txRead n)).failRead .transportReadFailed)) := by
  unfold readAnswer
  simp only [need_next]
  constructor
  · rintro ⟨n, hn, h⟩
    refine ⟨n, hn, ?_⟩
    cases a with
    | readOk bs => by_cases hl : bs.length = n <;> simp_all
    | readErr => simp_all
  · rintro ⟨n, hn, h⟩
    refine ⟨n, hn, ?_⟩
    cases a with
    | readOk bs => by_cases hl : bs.length = n <;> simp_all
    | readErr => simp_all

theorem readStep_next {s t : State} :
    readStep s = .next t ↔
      ∃ a rest, s.inputs = .answer (.read a) :: rest ∧ readAnswer a { s with inputs := rest } = .next t := by
  unfold readStep
  simp only [need_next, awaitAnswer_next]
  constructor
  · rintro ⟨n, hn, a, rest, hin, h⟩
    cases a with
    | read r => exact ⟨r, rest, hin, h⟩
    | write w => simp at h
    | poll p => simp at h
  · rintro ⟨a, rest, hin, h⟩
    obtain ⟨n, hn, -⟩ := readAnswer_next.mp h
    exact ⟨n, hn, .read a, rest, hin, h⟩

theorem receiveReply_next {bs : Frame} {s t : State} :
    receiveReply bs s = .next t ↔
      s.seq = .seqRx ∧ s.rstate = .reading ∧ readAnswer (.readOk bs) s = .next t := by
  unfold receiveReply
  split <;> simp_all

theorem applyReplyCheck_next {k : State → Out} {s t : State} :
    applyReplyCheck k s = .next t ↔
      (s.cfgReplyCheck = some .trust ∧ k s = .next t) ∨
      (s.cfgReplyCheck = some .verify ∧ s.pChkOk = some true ∧ k s = .next t) ∨
      (s.cfgReplyCheck = some .verify ∧ s.pChkOk = some false ∧ raise .replyChecksumMismatch s = .next t) := by
  unfold applyReplyCheck
  cases s.cfgReplyCheck with
  | none => simp [need]
  | some c =>
    cases c
    · simp
    · cases s.pChkOk with
      | none => simp [need]
      | some b => cases b <;> simp

theorem rxPhase_next {n : Nat} {finish : Frame → State → Out} {s t : State} :
    rxPhase n finish s = .next t ↔
      (s.rstate = .idle ∧ t = s.invokeRead n) ∨ (s.rstate = .polling ∧ pollStep s = .next t) ∨
      (s.rstate = .reading ∧ readStep s = .next t) ∨
      (∃ bs, s.rstate = .success ∧ s.rxbuf = some bs ∧ applyReplyCheck (finish bs) s = .next t) ∨
      (∃ e, s.rstate = .failed ∧ s.rerr = some e ∧ raise e s = .next t) := by
  unfold rxPhase
  cases s.rstate <;> simp [need_next, eq_comm (a := t)]

theorem scanItem_next {b : Bool} {s t : State} :
    scanItem b s = .next t ↔
      ∃ n, s.scanNext = some n ∧
        ((b = true ∧ ∃ f, s.scanFound = some f ∧
          t = (s.endOperation.nextItem n (some (f ++ [scanId n]))).post (.found (scanId n))) ∨
         (b = false ∧ t = (s.endOperation.nextItem n s.scanFound).post (.absent (scanId n)))) := by
  unfold scanItem
  cases b <;> simp [need_next, eq_comm (a := t)]

theorem finishPing_next {b : Bool} {s t : State} :
    finishPing b s = .next t ↔
      (s.scanActive = false ∧ t = s.endOperation.post (.bool b)) ∨
      (s.scanActive = true ∧ scanItem b s = .next t) := by
  unfold finishPing
  cases s.scanActive <;> simp [eq_comm (a := t)]

theorem scanHead_next {s t : State} :
    scanHead s = .next t ↔
      ∃ n hi, s.scanNext = some n ∧ s.scanHi = some hi ∧
        ((n < hi ∧ t = s.transmit (.ping (scanId n)) (encodePing (scanId n))) ∨
         (¬ n < hi ∧ t = s.endScan.post .complete)) := by
  unfold scanHead
  simp only [need_next]
  constructor
  · rintro ⟨n, hn, hi, hh, h⟩
    refine ⟨n, hi, hn, hh, ?_⟩
    split at h <;> simp_all [startPing, eq_comm (a := t)]
  · rintro ⟨n, hi, hn, hh, h⟩
    refine ⟨n, hn, hi, hh, ?_⟩
    split <;> simp_all [startPing, eq_comm (a := t)]

theorem execScan_next {lo hi : Nat} {s t : State} :
    execScan lo hi s = .next t ↔ s.admits ∧ hi ≤ 256 ∧ scanHead (s.beginScan lo hi) = .next t := by
  unfold execScan
  rw [guarded_next]
  by_cases h : 256 < hi
  · simp only [h, if_true]; constructor
    · rintro ⟨-, h'⟩; cases h'
    · rintro ⟨-, h', -⟩; omega
  · simp [h, Nat.le_of_not_lt h]

theorem startSession_next {p : SessionParams} {s t : State} :
    startSession p s = .next t ↔
      s.sessionOpen = false ∧ s.seq = .seqIdle ∧ s.scanActive = false ∧
        ∃ m tm pol c, p = ⟨some m, some tm, some pol, some c⟩ ∧ 1 ≤ m ∧ 1 ≤ tm ∧
          t = s.openSession m tm pol c := by
  unfold startSession
  cases s.sessionOpen
  · by_cases hb : s.seq ≠ .seqIdle ∨ s.scanActive = true
    · simp only [hb, if_true, Bool.false_eq_true, if_false]
      constructor
      · rintro ⟨⟩
      · rintro ⟨-, h1, h2, -⟩
        rcases hb with hb | hb
        · exact absurd h1 hb
        · simp [h2] at hb
    · simp only [hb, if_false, Bool.false_eq_true]
      have h1 : s.seq = .seqIdle := by by_contra h; exact hb (.inl h)
      have h2 : s.scanActive = false := by
        cases h : s.scanActive
        · rfl
        · exact absurd (.inr h) hb
      obtain ⟨a, b, c, d⟩ := p
      cases a <;> cases b <;> cases c <;> cases d <;> simp [h1, h2]
      rename_i m tm pol ck
      by_cases hl : 1 ≤ m ∧ 1 ≤ tm
      · simp [hl, eq_comm (a := t)]
      · simp only [hl, if_false]
        simp only [reduceCtorEq, false_iff]
        rintro ⟨h3, h4, -⟩
        exact hl ⟨h3, h4⟩
  · simp

theorem closeSession_next {s t : State} :
    closeSession s = .next t ↔ s.sessionOpen = true ∧ t = { s with sessionOpen := false } := by
  unfold closeSession
  cases s.sessionOpen <;> simp [eq_comm (a := t)]

end Sys2Proof.Machine
end

