-- ==== Sys2Proof/Laws/PerInstr.lean ====
section
/-! SUPPORT. Statements about every instruction as syntax, one lemma per constructor. -/

namespace Sys2Proof.Laws.FrameShape

/-- The number of bytes of each row (30_encoding.md R70, R71, R80, R81, R86). -/
def bytes : Instr → Nat
  | .ping _ => 6
  | .setId _ _ => 8
  | .move _ _ => 9
  | .getPosition _ => 8
  | .setSpeed _ _ => 9
  | .pingReply _ _ _ _ _ _ => 6
  | .positionReply _ _ _ _ _ _ _ _ => 8
  | .regWrite _ _ rest => rest.length + 5
  | .action _ _ rest => rest.length + 5
  | .factoryReset _ _ rest => rest.length + 5
  | .reboot _ _ rest => rest.length + 5
  | .syncWrite _ _ rest => rest.length + 5
  | .bulkRead _ _ rest => rest.length + 5

/-- The encoder gives a row its number of bytes, and a row that is sent begins with the two sentinels. -/
def Statement (i : Instr) : Prop :=
  (encode i).length = bytes i ∧
    (i.isReply = false → (encode i)[0]? = some Machine.sentinel ∧ (encode i)[1]? = some Machine.sentinel)

theorem ping (id : Byte) : Statement (.ping id) := ⟨rfl, fun _ => ⟨rfl, rfl⟩⟩

theorem setId (oldId newId : Byte) : Statement (.setId oldId newId) := ⟨rfl, fun _ => ⟨rfl, rfl⟩⟩

theorem move (id : Byte) (raw : Int) : Statement (.move id raw) := ⟨rfl, fun _ => ⟨rfl, rfl⟩⟩

theorem getPosition (id : Byte) : Statement (.getPosition id) := ⟨rfl, fun _ => ⟨rfl, rfl⟩⟩

theorem setSpeed (id : Byte) (raw : Int) : Statement (.setSpeed id raw) := ⟨rfl, fun _ => ⟨rfl, rfl⟩⟩

theorem pingReply (b0 b1 b2 b3 b4 b5 : Byte) : Statement (.pingReply b0 b1 b2 b3 b4 b5) := ⟨rfl, nofun⟩

theorem positionReply (b0 b1 b2 b3 b4 b5 b6 b7 : Byte) :
    Statement (.positionReply b0 b1 b2 b3 b4 b5 b6 b7) := ⟨rfl, nofun⟩

theorem regWrite (id len : Byte) (rest : Frame) : Statement (.regWrite id len rest) :=
  ⟨rfl, fun _ => ⟨rfl, rfl⟩⟩

theorem action (id len : Byte) (rest : Frame) : Statement (.action id len rest) :=
  ⟨rfl, fun _ => ⟨rfl, rfl⟩⟩

theorem factoryReset (id len : Byte) (rest : Frame) : Statement (.factoryReset id len rest) :=
  ⟨rfl, fun _ => ⟨rfl, rfl⟩⟩

theorem reboot (id len : Byte) (rest : Frame) : Statement (.reboot id len rest) :=
  ⟨rfl, fun _ => ⟨rfl, rfl⟩⟩

theorem syncWrite (id len : Byte) (rest : Frame) : Statement (.syncWrite id len rest) :=
  ⟨rfl, fun _ => ⟨rfl, rfl⟩⟩

theorem bulkRead (id len : Byte) (rest : Frame) : Statement (.bulkRead id len rest) :=
  ⟨rfl, fun _ => ⟨rfl, rfl⟩⟩

end Sys2Proof.Laws.FrameShape
end

