-- ==== Sys2Proof/Laws/Step.lean ====
section
/-! SUPPORT. Every transition of the block, once: what a step can do when it answers a next state. -/

namespace Sys2Proof.Machine

/-- The transitions of the block. `Transition s t` lists what a step from `s` to `t` can be. -/
inductive Transition : State → State → Prop where
  | reset {s rest} : s.inputs = .reset :: rest → Transition s (s.took rest).resetBlock
  | close {s rest} : s.inputs = .closeSession :: rest → s.sessionOpen = true →
      Transition s { s.took rest with sessionOpen := false }
  | open {s rest p m tm pol c} : s.inputs = .startSession p :: rest → s.sessionOpen = false →
      s.seq = .seqIdle → s.scanActive = false → 1 ≤ m → 1 ≤ tm →
      Transition s ((s.took rest).openSession m tm pol c)
  | encoded {s rest c r} : s.inputs = .command c :: rest → s.admits →
      Transition s ((s.took rest).post r)
  | scanBegin {s t rest lo hi} : s.inputs = .command (.scan lo hi) :: rest → s.admits → hi ≤ 256 →
      scanHead ((s.took rest).beginScan lo hi) = .next t → Transition s t
  | scanGoOn {s t rest} : s.inputs = .scanContinue :: rest → s.seq = .seqIdle → s.scanActive = true →
      scanHead (s.took rest) = .next t → Transition s t
  | scanGiveUp {s rest} : s.inputs = .scanAbandon :: rest → s.seq = .seqIdle → s.scanActive = true →
      Transition s ((s.took rest).endScan.post .abandoned)
  | begin {s rest i} : s.inputs = .command (.op i) :: rest → s.admits → i.isRequest = true → i.wf = true →
      Transition s ((s.took rest).transmit i (encode i))
  | rejected {s t rest i} : s.inputs = .command (.op i) :: rest → s.admits → i.isRequest = true →
      i.wf = false → raise .invalidRange { s.took rest with curOp := some i } = .next t → Transition s t
  | written {s rest i n f} : s.inputs = .answer (.write (.writeOk f.length)) :: rest → s.seq = .seqTx →
      s.curOp = some i → i.replyLength = some n → s.txbuf = some f →
      Transition s { (s.took rest).issue (.txWrite f) with seq := .seqRx }
  | writeDone {s rest i f} : s.inputs = .answer (.write (.writeOk f.length)) :: rest → s.seq = .seqTx →
      s.curOp = some i → i.isRequest = true → i.replyLength = none → s.txbuf = some f →
      Transition s (((s.took rest).issue (.txWrite f)).endOperation.post .done)
  | writeFailed {s t rest i f a} : s.inputs = .answer (.write a) :: rest → a ≠ .writeOk f.length →
      s.seq = .seqTx → s.curOp = some i → s.txbuf = some f →
      raise .transportWriteFailed ((s.took rest).issue (.txWrite f)) = .next t → Transition s t
  | invoke {s i n} : s.seq = .seqRx → s.rstate = .idle → s.curOp = some i → i.replyLength = some n →
      Transition s (s.invokeRead n)
  | polled {s t rest i m tm p} : s.seq = .seqRx → s.rstate = .polling → s.curOp = some i →
      s.cfgMaxRetries = some m → s.cfgPollTimeout = some tm → s.attempt < m →
      s.inputs = .answer (.poll p) :: rest → pollAnswer m p ((s.took rest).countPoll tm) = .next t →
      Transition s t
  | read {s t rest a} : s.seq = .seqRx → s.rstate = .reading → s.inputs = .answer (.read a) :: rest →
      readAnswer a (s.took rest) = .next t → Transition s t
  | badChecksum {s t i} : s.seq = .seqRx → s.rstate = .success → s.curOp = some i →
      s.cfgReplyCheck = some .verify → s.pChkOk = some false → raise .replyChecksumMismatch s = .next t →
      Transition s t
  | readFailed {s t e i} : s.seq = .seqRx → s.rstate = .failed → s.curOp = some i → s.rerr = some e →
      raise e s = .next t → Transition s t
  | pinged {s t id bs b} : s.seq = .seqRx → s.rstate = .success → s.curOp = some (.ping id) →
      s.rxbuf = some bs → pingMatch bs id = some b →
      (s.cfgReplyCheck = some .trust ∨ s.cfgReplyCheck = some .verify ∧ s.pChkOk = some true) →
      finishPing b s = .next t → Transition s t
  | located {s id bs v} : s.seq = .seqRx → s.rstate = .success → s.curOp = some (.getPosition id) →
      s.rxbuf = some bs → position bs = some v →
      (s.cfgReplyCheck = some .trust ∨ s.cfgReplyCheck = some .verify ∧ s.pChkOk = some true) →
      Transition s (s.endOperation.post (.position v))

/-- The phases of the five operations, from wherever the step finds them: a command just taken (`s` is
`r` without its first input) or the operation in progress (`s = r`). -/
theorem opPhase_idle_or_busy {i : Instr} {start tx rx : State → Out} {s t : State}
    (h : opPhase i start tx rx s = .next t) :
    (s.seq = .seqIdle ∧ s.admits ∧ start s = .next t) ∨
    (s.seq = .seqTx ∧ s.curOp = some i ∧ tx s = .next t) ∨
    (s.seq = .seqRx ∧ s.curOp = some i ∧ rx s = .next t) := by
  rcases opPhase_next.mp h with ⟨ha, h⟩ | h | h
  · exact .inl ⟨ha.2.1, ha, h⟩
  · exact .inr (.inl h)
  · exact .inr (.inr h)

theorem txPhase_done {i : Instr} {s t : State} (hs : s.seq = .seqTx) (hc : s.curOp = some i)
    (hr : i.isRequest = true) (hn : i.replyLength = none)
    (h : txPhase (finishOp .done) s = .next t) : Transition s t := by
  obtain ⟨f, a, rest, hf, hin, ⟨rfl, h⟩ | ⟨ha, h⟩⟩ := txPhase_next.mp h
  · cases h
    exact .writeDone hin hs hc hr hn hf
  · exact .writeFailed hin ha hs hc hf h

theorem txPhase_toReply {i : Instr} {n : Nat} {s t : State} (hs : s.seq = .seqTx) (hc : s.curOp = some i)
    (hn : i.replyLength = some n) (h : txPhase toReply s = .next t) : Transition s t := by
  obtain ⟨f, a, rest, hf, hin, ⟨rfl, h⟩ | ⟨ha, h⟩⟩ := txPhase_next.mp h
  · cases h
    exact .written hin hs hc hn hf
  · exact .writeFailed hin ha hs hc hf h

/-- The read half, less the result its success forms. -/
theorem rxPhase_transition {i : Instr} {n : Nat} {finish : Frame → State → Out} {s t : State}
    (hs : s.seq = .seqRx) (hc : s.curOp = some i) (hn : i.replyLength = some n)
    (hfin : ∀ bs, s.rstate = .success → s.rxbuf = some bs →
      (s.cfgReplyCheck = some .trust ∨ s.cfgReplyCheck = some .verify ∧ s.pChkOk = some true) →
      finish bs s = .next t → Transition s t)
    (h : rxPhase n finish s = .next t) : Transition s t := by
  rcases rxPhase_next.mp h with ⟨hr, rfl⟩ | ⟨hr, h⟩ | ⟨hr, h⟩ | ⟨bs, hr, hb, h⟩ | ⟨e, hr, he, h⟩
  · exact .invoke hs hr hc hn
  · obtain ⟨m, tm, p, rest, hm, htm, hlt, hin, h⟩ := pollStep_next.mp h
    exact .polled hs hr hc hm htm hlt hin h
  · obtain ⟨a, rest, hin, h⟩ := readStep_next.mp h
    exact .read hs hr hin h
  · rcases applyReplyCheck_next.mp h with ⟨hk, h⟩ | ⟨hk, ho, h⟩ | ⟨hk, ho, h⟩
    · exact hfin bs hr hb (.inl hk) h
    · exact hfin bs hr hb (.inr ⟨hk, ho⟩) h
    · exact .badChecksum hs hr hc hk ho h
  · exact .readFailed hs hr hc he h

/-- A row run by a busy block. -/
theorem exec_busy_transition {i : Instr} {s t : State} (hs : s.seq ≠ .seqIdle) (h : exec i s = .next t)
    (hi : i.isReply = false) : Transition s t := by
  cases i with
  | ping id =>
    rcases opPhase_idle_or_busy h with ⟨h0, -, -⟩ | ⟨h0, hc, h⟩ | ⟨h0, hc, h⟩
    · exact absurd h0 hs
    · exact txPhase_toReply h0 hc (n := 6) rfl h
    · refine rxPhase_transition h0 hc (n := 6) rfl (fun bs hr hb hk h => ?_) h
      cases hp : pingMatch bs id with
      | none => simp [hp] at h
      | some b => exact .pinged h0 hr hc hb hp hk (by simpa [hp] using h)
  | getPosition id =>
    rcases opPhase_idle_or_busy h with ⟨h0, -, -⟩ | ⟨h0, hc, h⟩ | ⟨h0, hc, h⟩
    · exact absurd h0 hs
    · exact txPhase_toReply h0 hc (n := 8) rfl h
    · refine rxPhase_transition h0 hc (n := 8) rfl (fun bs hr hb hk h => ?_) h
      cases hp : position bs with
      | none => simp [hp] at h
      | some v =>
        simp only [hp, finishOp_eq, Host.Outcome.next.injEq] at h
        exact h ▸ .located h0 hr hc hb hp hk
  | setId oldId newId =>
    rcases opPhase_idle_or_busy h with ⟨h0, -, -⟩ | ⟨h0, hc, h⟩ | ⟨h0, hc, h⟩
    · exact absurd h0 hs
    · exact txPhase_done h0 hc rfl rfl h
    · cases h
  | move id raw =>
    rcases opPhase_idle_or_busy h with ⟨h0, -, -⟩ | ⟨h0, hc, h⟩ | ⟨h0, hc, h⟩
    · exact absurd h0 hs
    · exact txPhase_done h0 hc rfl rfl h
    · cases h
  | setSpeed id raw =>
    rcases opPhase_idle_or_busy h with ⟨h0, -, -⟩ | ⟨h0, hc, h⟩ | ⟨h0, hc, h⟩
    · exact absurd h0 hs
    · exact txPhase_done h0 hc rfl rfl h
    · cases h
  | pingReply => cases hi
  | positionReply => cases hi
  | regWrite => cases h
  | action => cases h
  | factoryReset => cases h
  | reboot => cases h
  | syncWrite => cases h
  | bulkRead => cases h

theorem admits_took {rest : List Input} {s : State} : (s.took rest).admits ↔ s.admits := Iff.rfl

/-- A command that runs a row, taken by an idle block. -/
theorem exec_command_transition {i : Instr} {rest : List Input} {s t : State} (hs : s.seq = .seqIdle)
    (hin : s.inputs = .command (.op i) :: rest) (h : exec i (s.took rest) = .next t) : Transition s t := by
  cases i with
  | ping id =>
    rcases opPhase_idle_or_busy h with ⟨-, ha, h⟩ | ⟨h0, -, -⟩ | ⟨h0, -, -⟩
    · cases h
      exact .begin hin ha rfl rfl
    · simp [hs] at h0
    · simp [hs] at h0
  | getPosition id =>
    rcases opPhase_idle_or_busy h with ⟨-, ha, h⟩ | ⟨h0, -, -⟩ | ⟨h0, -, -⟩
    · cases h
      exact .begin hin ha rfl rfl
    · simp [hs] at h0
    · simp [hs] at h0
  | setId oldId newId =>
    rcases opPhase_idle_or_busy h with ⟨-, ha, h⟩ | ⟨h0, -, -⟩ | ⟨h0, -, -⟩
    · cases h
      exact .begin hin ha rfl rfl
    · simp [hs] at h0
    · simp [hs] at h0
  | move id raw =>
    rcases opPhase_idle_or_busy h with ⟨-, ha, h⟩ | ⟨h0, -, -⟩ | ⟨h0, -, -⟩
    · by_cases hv : validRaw raw = true
      · simp only [startChecked, encodeMove, hv, if_true, Host.Outcome.next.injEq] at h
        exact h ▸ .begin (i := .move id raw) hin ha rfl hv
      · simp only [startChecked, encodeMove, hv, if_false, Bool.false_eq_true] at h
        exact .rejected hin ha rfl (by simpa [Instr.wf] using hv) h
    · simp [hs] at h0
    · simp [hs] at h0
  | setSpeed id raw =>
    rcases opPhase_idle_or_busy h with ⟨-, ha, h⟩ | ⟨h0, -, -⟩ | ⟨h0, -, -⟩
    · by_cases hv : validRaw raw = true
      · simp only [startChecked, encodeSetSpeed, hv, if_true, Host.Outcome.next.injEq] at h
        exact h ▸ .begin (i := .setSpeed id raw) hin ha rfl hv
      · simp only [startChecked, encodeSetSpeed, hv, if_false, Bool.false_eq_true] at h
        exact .rejected hin ha rfl (by simpa [Instr.wf] using hv) h
    · simp [hs] at h0
    · simp [hs] at h0
  | pingReply => exact absurd (receiveReply_next.mp h).1 (by simp [hs])
  | positionReply => exact absurd (receiveReply_next.mp h).1 (by simp [hs])
  | regWrite => cases h
  | action => cases h
  | factoryReset => cases h
  | reboot => cases h
  | syncWrite => cases h
  | bulkRead => cases h

/-- What a received frame decodes to is a reply row of exactly those bytes. -/
theorem decodeReply_ok {bs : Frame} {i : Instr} (h : decodeReply bs = .ok i) :
    i.isReply = true ∧ encode i = bs ∧ (∀ s, exec i s = receiveReply bs s) := by
  unfold decodeReply at h
  split at h <;> cases h <;> exact ⟨rfl, rfl, fun _ => rfl⟩

/-- A reply row answers only a read in progress. -/
theorem exec_reply {i : Instr} {s : State} (h : i.isReply = true) : exec i s = receiveReply (encode i) s := by
  cases i <;> first | rfl | cases h

theorem otherCommand_transition {c : Command} {rest : List Input} {s t : State}
    (hin : s.inputs = .command c :: rest) (h : otherCommand c (s.took rest) = .next t) : Transition s t := by
  have enc : ∀ r, guarded (s.took rest) (postFrame r) = .next t → Transition s t := by
    intro r hr
    obtain ⟨ha, hr⟩ := guarded_next.mp hr
    cases r <;> cases hr <;> exact .encoded hin ha
  cases c with
  | op i => cases h
  | scan lo hi =>
    obtain ⟨ha, hb, h⟩ := execScan_next.mp h
    exact .scanBegin hin ha hb h
  | encodePing id => exact enc _ h
  | encodeSetId oldId newId => exact enc _ h
  | encodeMove id raw => exact enc _ h
  | encodeGetPosition id => exact enc _ h
  | encodeSetSpeed id raw => exact enc _ h

theorem hostStep_transition {s t : State} (h : hostStep s = .next t) : Transition s t := by
  unfold hostStep at h
  split at h
  · split at h
    · cases h
    · obtain ⟨_, _, h⟩ := need_next.mp h
      cases h
  · rename_i x rest hin
    have hclose : closeSession (s.took rest) = .next t → x = .closeSession → Transition s t := by
      rintro hc rfl
      obtain ⟨ho, rfl⟩ := closeSession_next.mp hc
      exact .close hin ho
    split at h
    · rename_i hs
      cases x with
      | reset => cases h; exact .reset hin
      | closeSession => exact hclose h rfl
      | startSession p =>
        obtain ⟨ho, hq, hsc, m, tm, pol, c, rfl, hm, htm, rfl⟩ := startSession_next.mp h
        exact .open hin ho hq hsc hm htm
      | command c => exact otherCommand_transition hin h
      | scanContinue =>
        change scanContinue (s.took rest) = _ at h
        unfold scanContinue at h
        split at h
        · exact .scanGoOn hin hs ‹_› h
        · cases h
      | scanAbandon =>
        change scanAbandon (s.took rest) = _ at h
        unfold scanAbandon at h
        split at h
        · cases h; exact .scanGiveUp hin hs ‹_›
        · cases h
      | answer a => cases h
    · cases x with
      | reset => cases h; exact .reset hin
      | closeSession => exact hclose h rfl
      | _ =>
        obtain ⟨_, _, h⟩ := need_next.mp h
        cases h

/-- The three ways a step runs a row. -/
theorem fetch_some {s : State} {i : Instr} {u : State} (h : fetch s = some (i, u)) :
    (∃ rest, s.seq = .seqIdle ∧ s.inputs = .command (.op i) :: rest ∧ u = s.took rest) ∨
    (∃ bs rest, s.seq = .seqRx ∧ s.rstate = .reading ∧ s.inputs = .answer (.read (.readOk bs)) :: rest ∧
      decodeReply bs = .ok i ∧ u = s.took rest) ∨
    (s.seq ≠ .seqIdle ∧ s.curOp = some i ∧ i.isReply = false ∧ u = s) := by
  have cur : fetchCurOp s = some (i, u) → s.curOp = some i ∧ i.isReply = false ∧ u = s := by
    unfold fetchCurOp
    cases s.curOp with
    | none => simp
    | some j => cases hj : j.isReply <;> simp [hj]; rintro rfl rfl; exact ⟨rfl, hj, rfl⟩
  unfold fetch at h
  split at h
  · cases h
  · cases hs : s.seq with
    | seqIdle =>
      simp only [hs] at h
      unfold fetchCommand at h
      split at h
      · cases h
        exact .inl ⟨_, rfl, ‹_›, rfl⟩
      · cases h
    | seqTx =>
      simp only [hs] at h
      refine .inr (.inr ?_)
      split at h
      · rename_i r hr
        unfold fetchReply at hr
        simp [hs] at hr
        split at hr <;> simp at hr
      · exact ⟨by simp, cur h⟩
    | seqRx =>
      simp only [hs] at h
      refine .inr ?_
      split at h
      · rename_i r hr
        cases h
        unfold fetchReply at hr
        split at hr
        · rename_i bs rest hin
          split at hr
          · rename_i hrd
            cases hd : decodeReply bs with
            | error e => simp [hd, Except.toOption] at hr
            | ok j =>
              simp only [hd, Except.toOption, Option.map_some, Option.some.injEq, Prod.mk.injEq] at hr
              obtain ⟨rfl, rfl⟩ := hr
              exact .inl ⟨bs, rest, rfl, hrd.2, hin, hd, rfl⟩
          · cases hr
        · cases hr
      · exact .inr ⟨by simp, cur h⟩

/-- EVERYTHING A STEP CAN DO. -/
theorem step_transition {s t : State} (h : step s = .next t) : Transition s t := by
  unfold step at h
  split at h
  · rename_i i u hf
    rcases fetch_some hf with ⟨rest, hs, hin, rfl⟩ | ⟨bs, rest, hs, hr, hin, hd, rfl⟩ | ⟨hs, -, hi, rfl⟩
    · exact exec_command_transition hs hin h
    · rw [(decodeReply_ok hd).2.2] at h
      exact .read hs hr hin (receiveReply_next.mp h).2.2
    · exact exec_busy_transition hs h hi
  · exact hostStep_transition h

end Sys2Proof.Machine
end

