-- ==== Sys2Proof/Laws/Run.lean ====
section
/-! SUPPORT. Runs of the block, and which row a step takes. -/

namespace Sys2Proof.Machine

@[simp] theorem runBlock_zero (s : State) : runBlock 0 s = .next s := rfl

theorem runBlock_next {k : Nat} {s t : State} (h : step s = .next t) : runBlock (k + 1) s = runBlock k t := by
  have h' : Sys2Proof.core.step s = .next t := h
  simp only [runBlock, Host.Core.run, h']
  rfl

theorem runBlock_fault {k : Nat} {s : State} {r : Fault} (h : step s = .fault r) : runBlock (k + 1) s = .fault r := by
  have h' : Sys2Proof.core.step s = .fault r := h
  simp only [runBlock, Host.Core.run, h']
  rfl

theorem runBlock_refused {k : Nat} {s : State} {r : Refusal} (h : step s = .refused r) :
    runBlock (k + 1) s = .refused r := by
  have h' : Sys2Proof.core.step s = .refused r := h
  simp only [runBlock, Host.Core.run, h']
  rfl

/-- A run goes on from where a run has come. -/
theorem runBlock_add {a b : Nat} {s t : State} (h : runBlock a s = .next t) : runBlock (a + b) s = runBlock b t := by
  induction a generalizing s with
  | zero => cases h; simp
  | succ a ih =>
    rw [Nat.add_right_comm]
    cases hs : step s with
    | next u => rw [runBlock_next hs] at h ⊢; exact ih h
    | fault r => rw [runBlock_fault hs] at h; cases h
    | refused r => rw [runBlock_refused hs] at h; cases h

theorem guarded_of_admits {s : State} (h : s.admits) (k : State → Out) : guarded s k = k s := by
  obtain ⟨h1, h2, h3⟩ := h
  simp [guarded, h1, h2, h3]

/-- An idle block runs the row a command names. -/
theorem step_command {s : State} {i : Instr} {rest : List Input} (hs : s.seq = .seqIdle)
    (hin : s.inputs = .command (.op i) :: rest) : step s = exec i { s with inputs := rest } := by
  simp [step, fetch, preempts, hin, hs, fetchCommand]

/-- A reading block runs the reply row of the bytes that arrive. -/
theorem step_reply {s : State} {i : Instr} {bs : Frame} {rest : List Input} (hs : s.seq = .seqRx)
    (hr : s.rstate = .reading) (hin : s.inputs = .answer (.read (.readOk bs)) :: rest)
    (hd : decodeReply bs = .ok i) : step s = exec i { s with inputs := rest } := by
  simp [step, fetch, preempts, hin, hs, fetchReply, hr, hd, Except.toOption]

/-- A busy block goes on with CUR_OP. -/
theorem step_busy {s : State} {i : Instr} (hs : s.seq ≠ .seqIdle) (hc : s.curOp = some i)
    (hi : i.isReply = false) (hp : preempts s.inputs = false) (hf : fetchReply s = none) : step s = exec i s := by
  unfold step fetch
  cases h : s.seq <;> simp_all [fetchCurOp]

/-- An event that runs no row. -/
theorem hostStep_cons {s : State} {x : Input} {rest : List Input} (h : s.inputs = x :: rest) :
    hostStep s = if s.seq = .seqIdle then idleInput x { s with inputs := rest }
      else busyInput x { s with inputs := rest } := by
  unfold hostStep
  rw [h]

/-- The operations that read a reply are ping and get_position. -/
theorem replyLength_some {i : Instr} {n : Nat} (h : i.replyLength = some n) :
    (∃ id, i = .ping id ∧ n = 6) ∨ (∃ id, i = .getPosition id ∧ n = 8) := by
  cases i <;> simp [Instr.replyLength] at h <;> subst h <;> simp

end Sys2Proof.Machine
end

