-- ==== Sys2Proof/Tests/Slice0.lean ====
section
/-! SUPPORT. The model's own tests, with expected values from spec 95_test_vectors.md and 30_encoding.md,
and for each obligation with hypotheses a state and operands that meet them. -/

namespace Sys2Proof.Tests

open Sys2Proof.Machine

/-! ## Helpers -/

/-- The next state, if there is one. -/
def nextOf : Out → Option State
  | .next t => some t
  | _ => none

/-- The refusal, if there is one. -/
def refusalOf : Out → Option Refusal
  | .refused r => some r
  | _ => none

/-- The fault, if there is one. -/
def faultOf : Out → Option Fault
  | .fault r => some r
  | _ => none

/-- The result a step posts. -/
def resultOf (o : Out) : Option Result := (nextOf o).bind State.result

/-- Idle, in a session of configuration (3, 50, RetryOnTimeout, Trust), given these inputs. -/
def ready (l : List Input) : State :=
  { State.reset.openSession 3 50 .retryOnTimeout .trust with inputs := l }

/-- An operation about to write its frame. -/
def tx (i : Instr) (l : List Input) : State := (ready l).transmit i (encode i)

/-- An operation about to invoke its read. -/
def rx (i : Instr) (l : List Input) : State := { tx i l with seq := .seqRx }

/-- A read in Polling, `k` polls done. -/
def polling (i : Instr) (n k : Nat) (l : List Input) : State := { (rx i l).invokeRead n with attempt := k }

/-- A read in Reading, after one poll. -/
def reading (i : Instr) (n : Nat) (l : List Input) : State := { polling i n 1 l with rstate := .reading }

/-- A read that has its bytes. -/
def replied (i : Instr) (bs : Frame) : State := (reading i bs.length []).takeReply bs

/-- A read that has failed. -/
def failed (i : Instr) (n : Nat) : State := (reading i n []).failRead .transportReadFailed

/-- Under Verify. -/
def verified (s : State) : State := { s with cfgReplyCheck := some .verify }

/-- Inside a scan of [lo, hi), SCAN_NEXT at `n`. -/
def inScan (n hi : Nat) (s : State) : State :=
  { s with scanActive := true, scanNext := some n, scanHi := some hi, scanFound := some [] }

/-- Another timeout policy or budget. -/
def withPolicy (m : Nat) (p : TimeoutPolicy) (s : State) : State :=
  { s with cfgMaxRetries := some m, cfgTimeoutPolicy := some p }

/-! ## WellFormed refuses one ill-formed term for each check -/

theorem test_wf_move_above : (Instr.move 1 1024).wf = false := by decide
theorem test_wf_move_below : (Instr.move 1 (-1)).wf = false := by decide
theorem test_wf_speed_above : (Instr.setSpeed 1 1024).wf = false := by decide
theorem test_wf_speed_below : (Instr.setSpeed 1 (-5)).wf = false := by decide
theorem test_wf_code_length : (Instr.regWrite 1 3 [0xF7]).wf = false := by decide
theorem test_wf_code_no_tail : (Instr.bulkRead 1 1 []).wf = false := by decide
theorem test_wf_code_checksum : (Instr.action 1 2 [0xF8]).wf = false := by decide
theorem test_wf_code_complete : (Instr.syncWrite 1 2 [0x79]).wf = true := by decide

/-! ## Decoding, one word or frame per constructor (30_encoding.md R75 to R82) -/

theorem test_decode_ping : decodeTableWord 48 0xFFFF050201F7 = some (.ping 5) := by decide
theorem test_decode_set_id : decodeTableWord 64 0xFFFF0504030307E9 = some (.setId 5 7) := by decide
theorem test_decode_move : decodeTableWord 72 0xFFFF0205031E2C01AA = some (.move 2 300) := by decide
theorem test_decode_get_position : decodeTableWord 64 0xFFFFD30402240200 = some (.getPosition 0xD3) := by decide
theorem test_decode_set_speed : decodeTableWord 72 0xFFFF01050320640072 = some (.setSpeed 1 100) := by decide
theorem test_decode_ping_reply :
    decodeReply [0xFF, 0xFF, 0x05, 0x02, 0x00, 0xF8] = .ok (.pingReply 0xFF 0xFF 5 2 0 0xF8) := by decide
theorem test_decode_position_reply :
    decodeTableWord 64 0xFFFF010400640096 = some (.positionReply 0xFF 0xFF 1 4 0 0x64 0 0x96) := by decide
theorem test_decode_reg_write : decodeTableWord 40 0xFFFF010204 = some (.regWrite 1 2 []) := by decide
theorem test_decode_action :
    decodeRequest [0xFF, 0xFF, 0x01, 0x02, 0x05, 0xF7] = .ok (.action 1 2 [0xF7]) := by decide
theorem test_decode_factory_reset : decodeTableWord 40 0xFFFF010206 = some (.factoryReset 1 2 []) := by decide
theorem test_decode_reboot : decodeTableWord 40 0xFFFF010208 = some (.reboot 1 2 []) := by decide
theorem test_decode_sync_write : decodeTableWord 40 0xFFFFFE0883 = some (.syncWrite 0xFE 8 []) := by decide
theorem test_decode_bulk_read : decodeTableWord 40 0xFFFFFE0892 = some (.bulkRead 0xFE 8 []) := by decide
theorem test_decode_bad_code :
    decodeRequest [0xFF, 0xFF, 0x01, 0x02, 0x07, 0xF5] = .error (.unknownInstr 7) := by decide
theorem test_decode_bad_address :
    decodeRequest [0xFF, 0xFF, 0x01, 0x04, 0x03, 0x04, 0x02, 0xF1] = .error (.unknownAddress 4) := by decide
theorem test_decode_bad_header :
    decodeRequest [0xFF, 0x00, 0x01, 0x02, 0x01, 0xFB] = .error .badHeader := by decide
theorem test_emitted : isEmitted [0xFF, 0xFF, 0x01, 0x05, 0x03, 0x1E, 0x00, 0x02, 0xD6] = true := by decide
theorem test_not_emitted_checksum : isEmitted [0xFF, 0xFF, 0x05, 0x02, 0x01, 0xF8] = false := by decide
theorem test_not_emitted_range : isEmitted [0xFF, 0xFF, 0x01, 0x05, 0x03, 0x1E, 0x00, 0x04, 0xD4] = false := by decide

/-! ## Checksums, encoders, range (95_test_vectors.md 2.1, 2.2) -/

theorem test_checksum_wraps : checksum [0xFD, 0x02, 0x01] = 0xFF := by decide
theorem test_checksum_zero : checksum [0xD3, 0x04, 0x02, 0x24, 0x02] = 0x00 := by decide
theorem test_checksum_high : checksum [0xFF, 0x04, 0x03, 0x03, 0xFF] = 0xF7 := by decide
theorem test_encode_ping : encodePing 0xFE = [0xFF, 0xFF, 0xFE, 0x02, 0x01, 0xFE] := by decide
theorem test_encode_set_id :
    encodeSetId 0xFF 0xFF = [0xFF, 0xFF, 0xFF, 0x04, 0x03, 0x03, 0xFF, 0xF7] := by decide
theorem test_encode_move :
    moveFrame 1 1023 = [0xFF, 0xFF, 0x01, 0x05, 0x03, 0x1E, 0xFF, 0x03, 0xD6] := by decide
theorem test_encode_get_position :
    encodeGetPosition 0xD4 = [0xFF, 0xFF, 0xD4, 0x04, 0x02, 0x24, 0x02, 0xFF] := by decide
theorem test_encode_set_speed :
    setSpeedFrame 3 512 = [0xFF, 0xFF, 0x03, 0x05, 0x03, 0x20, 0x00, 0x02, 0xD2] := by decide
theorem test_valid_raw :
    [-1, 0, 255, 256, 1023, 1024, 65536].map validRaw = [false, true, true, true, true, false, false] := by decide

/-! ## Parser and validator (95_test_vectors.md 2.3) -/

/-- The three flags of a frame. -/
def flags (bs : Frame) : Bool × Bool × Bool := (hdrOk bs, lenOk bs, chkOk bs)

theorem test_flags_good : flags [0xFF, 0xFF, 0x01, 0x04, 0x00, 0x64, 0x00, 0x96] = (true, true, true) := by decide
theorem test_flags_bad_checksum :
    flags [0xFF, 0xFF, 0x01, 0x04, 0x00, 0x64, 0x00, 0x00] = (true, true, false) := by decide
theorem test_flags_zeros : flags [0x00, 0x00, 0x05, 0x00, 0x00, 0x00] = (false, false, false) := by decide
theorem test_flags_ones : flags [0xFF, 0xFF, 0xFF, 0xFF, 0xFF, 0xFF] = (true, false, false) := by decide
theorem test_decode_fields :
    decodeFields [0xFF, 0xFF, 0x05, 0x02, 0x01, 0xF7] = some ⟨5, 2, 1, [], 0xF7⟩ := by decide
theorem test_command_parameter :
    commandByte [0xFF, 0xFF, 0x01, 0x04, 0x02, 0x24, 0x02, 0xD2] = some 0x24 := by decide
theorem test_position_unsigned :
    position [0xFF, 0xFF, 0x01, 0x04, 0x00, 0xFF, 0xFF, 0xFC] = some 65535 := by decide
theorem test_error_codes :
    [none, some ErrorKind.transportPollFailed, some ErrorKind.invalidRange].map statusCode = [0, 4, 7] := by decide

/-! ## One step of each operation (95_test_vectors.md 2.4, 2.5) -/

theorem test_ping_true :
    resultOf (step (replied (.ping 5) [0xFF, 0xFF, 0x05, 0x02, 0x00, 0xF8])) = some (.bool true) := by decide
theorem test_ping_false :
    resultOf (step (replied (.ping 5) [0xFF, 0xFF, 0x06, 0x02, 0x00, 0xF7])) = some (.bool false) := by decide
theorem test_set_id_done :
    resultOf (step (tx (.setId 1 2) [.answer (.write (.writeOk 8))])) = some .done := by decide
theorem test_set_id_short :
    resultOf (step (tx (.setId 2 3) [.answer (.write (.writeOk 5))])) = some (.error .transportWriteFailed) := by decide
theorem test_move_done :
    resultOf (step (tx (.move 1 512) [.answer (.write (.writeOk 9))])) = some .done := by decide
theorem test_move_range :
    resultOf (step (ready [.command (.op (.move 1 1024))])) = some (.error .invalidRange) := by decide
theorem test_get_position_other_id :
    resultOf (step (replied (.getPosition 1) [0xFF, 0xFF, 0x07, 0x04, 0x00, 0x00, 0x02, 0xF2])) =
      some (.position 512) := by decide
theorem test_get_position_verify :
    resultOf (step (verified (replied (.getPosition 1) [0xFF, 0xFF, 0x01, 0x04, 0x00, 0x64, 0x00, 0x00]))) =
      some (.error .replyChecksumMismatch) := by decide
theorem test_set_speed_frame :
    ((nextOf (step (tx (.setSpeed 1 100) [.answer (.write (.writeOk 9))]))).map State.outputs) =
      some [.request (.txWrite [0xFF, 0xFF, 0x01, 0x05, 0x03, 0x20, 0x64, 0x00, 0x72]), .result .done] := by decide
theorem test_set_speed_range :
    resultOf (step (ready [.command (.op (.setSpeed 1 (-5)))])) = some (.error .invalidRange) := by decide
theorem test_ping_reply_latches :
    (nextOf (step (reading (.ping 5) 6 [.answer (.read (.readOk [0x00, 0x00, 0x05, 0x00, 0x00, 0x00]))]))).map
      (fun t => (t.rstate, t.pHdrOk, t.pChkOk)) = some (.success, some false, some false) := by decide
theorem test_position_reply_to_ping :
    (nextOf (step (reading (.ping 5) 6
      [.answer (.read (.readOk [0xFF, 0xFF, 0x01, 0x04, 0x00, 0x64, 0x00, 0x96]))]))).map
      (fun t => (t.rstate, t.rxbuf)) = some (.failed, none) := by decide
theorem test_poll_last_attempt :
    (nextOf (step (polling (.ping 1) 6 2 [.answer (.poll .timeout)]))).map
      (fun t => (t.rstate, t.rerr, t.attempt)) = some (.failed, some .transportReadFailed, 3) := by decide
theorem test_poll_abort :
    (nextOf (step (withPolicy 3 .abortOnTimeout (polling (.ping 1) 6 0 [.answer (.poll .timeout)])))).map
      (fun t => (t.rstate, t.attempt)) = some (.failed, 1) := by decide
theorem test_short_read :
    (nextOf (step (reading (.getPosition 1) 8 [.answer (.read (.readOk [1, 2, 3, 4, 5]))]))).map State.rerr =
      some (some .transportReadFailed) := by decide
theorem test_scan_empty :
    resultOf (step (ready [.command (.scan 3 3)])) = some .complete := by decide
theorem test_scan_item :
    (nextOf (step (inScan 5 10 (replied (.ping 5) [0xFF, 0xFF, 0x05, 0x02, 0x00, 0xF8])))).map
      (fun t => (t.result, t.scanNext, t.scanFound)) = some (some (.found 5), some 6, some [5]) := by decide
theorem test_scan_bound : refusalOf (step (ready [.command (.scan 0 257)])) = some (.scanBound 257) := by decide
theorem test_no_budget_no_session :
    refusalOf (step { State.reset with inputs := [.startSession ⟨some 0, some 50, some .retryOnTimeout, some .trust⟩] }) =
      some .illegalConfig := by decide
theorem test_session_start_clears_result :
    (nextOf (step { ready [.startSession ⟨some 1, some 1, some .abortOnTimeout, some .verify⟩] with
      sessionOpen := false, result := some .done })).map (fun t => (t.result, t.sessionOpen, t.cfgMaxRetries)) =
      some (none, true, some 1) := by decide
theorem test_session_start_while_busy :
    refusalOf (step { inScan 2 4 (ready [.startSession ⟨some 1, some 1, some .abortOnTimeout, some .verify⟩]) with
      sessionOpen := false }) = some .busy := by decide
theorem test_reset_waits : faultOf (step State.reset) = some .awaitingHost := by decide

/-! ## A placed table word is the first instruction after reset (log 16) -/

theorem test_fetch_ping :
    (nextOf (step (State.reset.withFetchWord 48 0xFFFF050201F7))).map (fun t => (t.seq, t.curOp)) =
      some (.seqTx, some (.ping 5)) := by decide
theorem test_fetch_position_reply :
    (nextOf (step (State.reset.withFetchWord 64 0xFFFF010400640096))).map (fun t => (t.rstate, t.pChkOk)) =
      some (.success, some true) := by decide
theorem test_fetch_reg_write :
    refusalOf (step (State.reset.withFetchWord 40 0xFFFF010204)) = some (.neverEmitted 4) := by decide
theorem test_fetch_action :
    refusalOf (step (State.reset.withFetchWord 40 0xFFFF010205)) = some (.neverEmitted 5) := by decide
theorem test_fetch_factory_reset :
    refusalOf (step (State.reset.withFetchWord 40 0xFFFF010206)) = some (.neverEmitted 6) := by decide
theorem test_fetch_reboot :
    refusalOf (step (State.reset.withFetchWord 40 0xFFFF010208)) = some (.neverEmitted 8) := by decide
theorem test_fetch_sync_write :
    refusalOf (step (State.reset.withFetchWord 40 0xFFFF010283)) = some (.neverEmitted 0x83) := by decide
theorem test_fetch_bulk_read :
    refusalOf (step (State.reset.withFetchWord 40 0xFFFF010292)) = some (.neverEmitted 0x92) := by decide

/-! ## States that meet the invariant -/

theorem ready_admits (l : List Input) : (ready l).admits := ⟨rfl, rfl, rfl⟩

theorem ready_ended (l : List Input) : (ready l).operationEnded := by
  refine ⟨rfl, rfl, rfl, rfl, rfl, rfl, rfl, rfl, rfl, rfl, rfl⟩

theorem ready_configured (l : List Input) : (ready l).configured :=
  ⟨3, 50, .retryOnTimeout, .trust, rfl, rfl, rfl, rfl, by decide, by decide⟩

theorem ready_inv (l : List Input) : Machine.Inv (ready l) :=
  ⟨.inr (ready_configured l), ready_ended l, ⟨rfl, rfl, rfl⟩⟩

/-- A ping in any phase of its read, given its registers, meets the invariant. -/
theorem rx_inv {s : State} (hc : s.configured) (hq : s.seq = .seqRx) (ht : s.transmitting (.ping 5))
    (hr : s.readRegisters 6) (ha : s.scanActive = false)
    (hs : s.scanNext = none ∧ s.scanHi = none ∧ s.scanFound = none) : Machine.Inv s := by
  refine ⟨.inr hc, ?_, ?_⟩
  · simp only [State.sequencing, hq]
    exact ⟨.ping 5, 6, ht, rfl, hr⟩
  · simpa [State.scanning, ha] using hs

theorem tx_inv (l : List Input) : Machine.Inv (tx (.ping 5) l) :=
  ⟨.inr (ready_configured l), ⟨⟨.ping 5, rfl, rfl, rfl, rfl⟩, rfl, rfl, rfl, rfl, rfl, rfl, rfl, rfl⟩, ⟨rfl, rfl, rfl⟩⟩

theorem polling_inv (l : List Input) : Machine.Inv (polling (.ping 5) 6 2 l) :=
  rx_inv (ready_configured l) rfl ⟨rfl, rfl, rfl, rfl⟩
    ⟨rfl, rfl, rfl, ⟨rfl, rfl, rfl⟩, 3, rfl, Nat.lt_succ_self 2⟩ rfl ⟨rfl, rfl, rfl⟩

theorem reading_inv (l : List Input) : Machine.Inv (reading (.ping 5) 6 l) :=
  rx_inv (ready_configured l) rfl ⟨rfl, rfl, rfl, rfl⟩
    ⟨rfl, rfl, rfl, ⟨rfl, rfl, rfl⟩, Nat.le_refl 1, 3, rfl, (by omega : 1 ≤ 3)⟩ rfl ⟨rfl, rfl, rfl⟩

/-! ## Hypotheses met: framer, encoding, parser -/

theorem witness_FrameIsHeaderBodyAndChecksum :
    ([] : Frame).length ≤ 253 ∧ (List.replicate 253 (0xFF : Byte)).length ≤ 253 :=
  ⟨Nat.zero_le _, Nat.le_of_eq List.length_replicate⟩

theorem witness_EncodersGiveTheRequestFrames :
    ((0 : Int) = (0 : Nat) + 256 * (0 : Nat)) ∧ ((1023 : Int) = (255 : Nat) + 256 * (3 : Nat)) ∧
      ((-1 : Int) < 0 ∨ 1023 < (-1 : Int)) ∧ ((1024 : Int) < 0 ∨ 1023 < (1024 : Int)) ∧
      ((0 : Int) ≤ 1023 ∧ (1023 : Int) ≤ 1023) := by decide

theorem witness_DecodeRecoversEveryInstruction :
    ((Instr.move 0xFF 1023).wf = true ∧ (Instr.move 0xFF 1023).isReply = false) ∧
      ((Instr.setSpeed 0 0).wf = true ∧ (Instr.setSpeed 0 0).isReply = false) ∧
      ((Instr.reboot 1 2 [0xF4]).wf = true ∧ (Instr.reboot 1 2 [0xF4]).isReply = false) ∧
      ((Instr.pingReply 0 0 0 0 0 0).wf = true ∧ (Instr.pingReply 0 0 0 0 0 0).isReply = true) := by decide

theorem witness_TableWordRecoversEveryRequest :
    (Instr.setSpeed 0xFF 1023).wf = true ∧ (Instr.setSpeed 0xFF 1023).isReply = false := by decide

theorem witness_EmittedFramesAreTheFiveRows :
    isEmitted [0xFF, 0xFF, 0x01, 0x04, 0x02, 0x24, 0x02, 0xD2] = true ∧
      isEmitted [0xFF, 0xFF, 0xFF, 0x02, 0x01, 0xFD] = true := by decide

theorem witness_GenericDecodeReadsEveryField : ([1, 2, 3, 4, 5] : Frame).length < 6 ∧ ([] : Frame).length < 6 := by
  decide

theorem witness_GenericDecodeRecoversIdAndCommand :
    encodeMove 1 1023 = .ok (moveFrame 1 1023) ∧ encodeSetSpeed 1 0 = .ok (setSpeedFrame 1 0) := by decide

/-! ## Hypotheses met: reset, session, guard -/

theorem witness_EveryStepKeepsTheInvariant :
    Machine.Inv (polling (.ping 5) 6 2 [.answer (.poll .ready)]) ∧
      step (polling (.ping 5) 6 2 [.answer (.poll .ready)]) =
        .next { polling (.ping 5) 6 3 [] with rstate := .reading, outputs := [.request (.txPoll 50)] } :=
  ⟨polling_inv _, rfl⟩

theorem witness_NoStepReadsAnUnwrittenRegister : Machine.Inv (reading (.ping 5) 6 []) := reading_inv _

/-- Reset, and a start with these parameters. -/
def starting (q : SessionParams) : State := { State.reset with inputs := [.startSession q] }

theorem witness_SessionStartWritesTheConfiguration_legal :
    let s := starting ⟨some 1, some 1, some .abortOnTimeout, some .verify⟩
    s.seq = .seqIdle ∧ s.scanActive = false ∧ s.sessionOpen = false ∧ 1 ≤ 1 := by decide

theorem witness_SessionStartWritesTheConfiguration_illegal :
    let s := starting ⟨some 0, some 1, some .abortOnTimeout, some .verify⟩
    s.seq = .seqIdle ∧ s.scanActive = false ∧ s.sessionOpen = false ∧ ((0 : Nat) = 0 ∨ (1 : Nat) = 0) := by decide

theorem witness_SessionStartWritesTheConfiguration_missing :
    let q : SessionParams := ⟨some 3, some 50, some .abortOnTimeout, none⟩
    (starting q).seq = .seqIdle ∧ (starting q).scanActive = false ∧ (starting q).sessionOpen = false ∧
      (q.maxRetries = none ∨ q.pollTimeout = none ∨ q.timeoutPolicy = none ∨ q.replyCheck = none) := by decide

theorem witness_SessionStartWritesTheConfiguration_second :
    let s := ready [.startSession ⟨some 3, some 50, some .abortOnTimeout, some .trust⟩]
    s.seq = .seqIdle ∧ s.scanActive = false ∧ s.sessionOpen = true := by decide

theorem witness_ResetAndCloseActInEveryState :
    (polling (.ping 5) 6 2 [.reset]).inputs = [.reset] ∧
      ((polling (.ping 5) 6 2 [.closeSession]).inputs = [.closeSession] ∧
        (polling (.ping 5) 6 2 [.closeSession]).sessionOpen = true) ∧
      { State.reset with inputs := [.closeSession] }.sessionOpen = false := by decide

theorem witness_OperationsLeaveTheSessionAlone :
    let s := ready [.command (.op (.ping 5))]
    step s = .next (tx (.ping 5) []) ∧ preempts s.inputs = false ∧ ∀ q rest, s.inputs ≠ .startSession q :: rest :=
  ⟨rfl, rfl, by simp [ready]⟩

theorem witness_NoCommandOutsideASession :
    let s : State := { State.reset with inputs := [.command (.scan 0 256)] }
    s.sessionOpen = false ∧ s.seq = .seqIdle ∧ (Command.scan 0 256).isHost = true ∧
      (Command.op (.setId 1 2)).isHost = true ∧ (Command.encodePing 1).isHost = true := by decide

theorem witness_BusyBlockTakesNoCommand_internal :
    let s := rx (.ping 5) [.command (.op (.ping 6))]
    s.seq ≠ .seqIdle ∧ step s = .next (polling (.ping 5) 6 0 [.command (.op (.ping 6))]) := ⟨by decide, rfl⟩

theorem witness_BusyBlockTakesNoCommand_waiting :
    let s := tx (.ping 5) [.command (.encodePing 6)]
    Machine.Inv s ∧ s.outstanding ≠ none := ⟨tx_inv _, by decide⟩

theorem witness_BusyBlockTakesNoCommand_scan :
    let s := inScan 2 4 (ready [.command (.op (.setId 1 2))])
    s.seq = .seqIdle ∧ s.scanActive = true ∧ s.sessionOpen = true ∧ (Command.op (.setId 1 2)).isHost = true := by
  decide

/-! ## Hypotheses met: operations -/

theorem witness_RequestsStartTransmitting :
    ((Instr.move 1 1023).isRequest = true ∧ (Instr.move 1 1023).wf = true) ∧
      ((Instr.setSpeed 1 0).isRequest = true ∧ (Instr.setSpeed 1 0).wf = true) ∧ (ready []).admits :=
  ⟨by decide, by decide, ready_admits _⟩

theorem witness_InvalidRangeComesBeforeAnyRequest :
    ((-1 : Int) < 0 ∨ 1023 < (-1 : Int)) ∧ ((1024 : Int) < 0 ∨ 1023 < (1024 : Int)) ∧ (ready []).admits ∧
      (ready []).operationEnded := ⟨by decide, by decide, ready_admits _, ready_ended _⟩

/-- What the encoder statement asks of a command and a frame. -/
def encodes (c : Command) (f : Frame) : Prop :=
  (∃ id, c = .encodePing id ∧ f = encodePing id) ∨ (∃ a b, c = .encodeSetId a b ∧ f = encodeSetId a b) ∨
    (∃ id raw, c = .encodeMove id raw ∧ encodeMove id raw = .ok f) ∨
    (∃ id, c = .encodeGetPosition id ∧ f = encodeGetPosition id) ∨
    (∃ id raw, c = .encodeSetSpeed id raw ∧ encodeSetSpeed id raw = .ok f)

theorem witness_EncoderCommandsWriteOnlyTheResult :
    (ready [.command (.encodePing 5)]).admits ∧ encodes (.encodePing 5) (encodePing 5) ∧
      encodes (.encodeSetId 1 2) (encodeSetId 1 2) ∧ encodes (.encodeMove 1 1023) (moveFrame 1 1023) ∧
      encodes (.encodeGetPosition 1) (encodeGetPosition 1) ∧ encodes (.encodeSetSpeed 1 0) (setSpeedFrame 1 0) :=
  ⟨ready_admits _, .inl ⟨5, rfl, rfl⟩, .inr (.inl ⟨1, 2, rfl, rfl⟩), .inr (.inr (.inl ⟨1, 1023, rfl, rfl⟩)),
    .inr (.inr (.inr (.inl ⟨1, rfl, rfl⟩))), .inr (.inr (.inr (.inr ⟨1, 0, rfl, rfl⟩)))⟩

theorem witness_WriteOnlyOperationsAnswerDone :
    let i := Instr.setSpeed 1 1023
    let s := tx i [.answer (.write (.writeOk 9))]
    i.isRequest = true ∧ i.replyLength = none ∧ s.seq = .seqTx ∧ s.curOp = some i ∧ s.txbuf = some (encode i) ∧
      s.inputs = [.answer (.write (.writeOk (encode i).length))] := by decide

theorem witness_ReadingOperationsInvokeTheRead_written :
    let i := Instr.getPosition 1
    let s := tx i [.answer (.write (.writeOk 8))]
    i.replyLength = some 8 ∧ s.curOp = some i ∧ s.seq = .seqTx ∧ s.txbuf = some (encode i) ∧
      s.inputs = [.answer (.write (.writeOk (encode i).length))] := by decide

theorem witness_ReadingOperationsInvokeTheRead_invoked :
    let i := Instr.ping 0xFF
    i.replyLength = some 6 ∧ (rx i []).curOp = some i ∧ (rx i []).seq = .seqRx ∧ (rx i []).rstate = .idle := by decide

theorem witness_AnyOtherWriteAnswerFailsTheOperation :
    let i := Instr.ping 5
    let s := fun a => tx i [.answer (.write a)]
    i.isRequest = true ∧ (s .writeErr).seq = .seqTx ∧ (s .writeErr).curOp = some i ∧
      (s .writeErr).txbuf = some (encode i) ∧ (s .writeErr).scanActive = false ∧
      WriteAnswer.writeErr ≠ .writeOk (encode i).length ∧ WriteAnswer.writeOk 5 ≠ .writeOk (encode i).length ∧
      WriteAnswer.writeOk 7 ≠ .writeOk (encode i).length ∧ WriteAnswer.writeOk 0 ≠ .writeOk (encode i).length := by
  decide

theorem witness_PollErrorFailsTheReadAtOnce :
    let s := polling (.ping 5) 6 2 [.answer (.poll .pollErr)]
    (Instr.ping 5).replyLength = some 6 ∧ s.seq = .seqRx ∧ s.rstate = .polling ∧ s.curOp = some (.ping 5) ∧
      s.cfgMaxRetries = some 3 ∧ s.cfgPollTimeout = some 50 ∧ s.attempt < 3 := by decide

/-- What the poll statement asks of a state in Polling. -/
def pollable (s : State) (m : Nat) (p : TimeoutPolicy) : Prop :=
  s.seq = .seqRx ∧ s.rstate = .polling ∧ s.curOp = some (.getPosition 1) ∧ s.cfgMaxRetries = some m ∧
    s.cfgPollTimeout = some 50 ∧ s.cfgTimeoutPolicy = some p ∧ s.attempt < m

theorem witness_PollAnswersFollowThePolicy_ready :
    pollable (polling (.getPosition 1) 8 2 [.answer (.poll .ready)]) 3 .retryOnTimeout :=
  ⟨rfl, rfl, rfl, rfl, rfl, rfl, by decide⟩

theorem witness_PollAnswersFollowThePolicy_retry :
    pollable (polling (.getPosition 1) 8 1 [.answer (.poll .timeout)]) 3 .retryOnTimeout ∧ 1 + 1 < 3 :=
  ⟨⟨rfl, rfl, rfl, rfl, rfl, rfl, by decide⟩, by decide⟩

theorem witness_PollAnswersFollowThePolicy_exhausted :
    pollable (polling (.getPosition 1) 8 2 [.answer (.poll .timeout)]) 3 .retryOnTimeout ∧ 2 + 1 = 3 :=
  ⟨⟨rfl, rfl, rfl, rfl, rfl, rfl, by decide⟩, by decide⟩

theorem witness_PollAnswersFollowThePolicy_abort :
    pollable (withPolicy 3 .abortOnTimeout (polling (.getPosition 1) 8 0 [.answer (.poll .timeout)])) 3 .abortOnTimeout :=
  ⟨rfl, rfl, rfl, rfl, rfl, rfl, by decide⟩

theorem witness_ReplyRowsFillTheReplyRegister :
    let i := Instr.positionReply 0 0 0 0 0 0 0 0
    let s := reading (.getPosition 1) 8 []
    i.isReply = true ∧ s.seq = .seqRx ∧ s.rstate = .reading ∧ s.rxn = some (encode i).length ∧
      (Instr.pingReply 0 0 0 0 0 0).isReply = true ∧
      (reading (.ping 1) 6 []).rxn = some (encode (Instr.pingReply 0 0 0 0 0 0)).length := by decide

theorem witness_ReplyRowsNeedTheirRead :
    let i := Instr.pingReply 0 0 0 0 0 0
    let s := reading (.getPosition 1) 8 []
    i.isReply = true ∧ (s.seq = .seqRx ∧ s.rstate = .reading ∧ s.rxn = some 8 ∧ (encode i).length ≠ 8) ∧
      ¬ ((ready []).seq = .seqRx ∧ (ready []).rstate = .reading) := by decide

theorem witness_AnyOtherReadAnswerFailsTheRead :
    let s := reading (.getPosition 1) 8 [.answer (.read (.readOk [1, 2, 3, 4, 5, 6, 7]))]
    ((Instr.getPosition 1).replyLength = some 8 ∧ s.seq = .seqRx ∧ s.rstate = .reading ∧
      s.curOp = some (.getPosition 1) ∧ s.rxn = some 8) ∧
      (∀ bs, ReadAnswer.readOk [1, 2, 3, 4, 5, 6, 7] = .readOk bs → bs.length ≠ 8) ∧
      (∀ bs, ReadAnswer.readOk [] = .readOk bs → bs.length ≠ 8) ∧
      (∀ bs, ReadAnswer.readErr = .readOk bs → bs.length ≠ 8) :=
  ⟨by decide, by rintro bs ⟨⟩; decide, by rintro bs ⟨⟩; decide, by simp⟩

theorem witness_ReplyBytesComeFromOneExactRead :
    let s := reading (.ping 5) 6 [.answer (.read (.readOk [1, 2, 3, 4, 5, 6]))]
    Machine.Inv s ∧ (nextOf (step s)).map State.rxbuf = some (some [1, 2, 3, 4, 5, 6]) ∧ s.rxbuf = none ∧
      s.rstate = .reading := ⟨reading_inv _, by decide, rfl, rfl⟩

theorem witness_ReplyBytesComeFromOneExactRead_short :
    let s := reading (.ping 5) 6 [.answer (.read (.readOk [1, 2, 3, 4, 5]))]
    Machine.Inv s ∧ (nextOf (step s)).map State.rstate = some .failed ∧ s.rstate = .reading ∧
      s.rxn ≠ some ([1, 2, 3, 4, 5] : Frame).length := ⟨reading_inv _, by decide, rfl, by decide⟩

theorem witness_PingAnswersWhetherTheIdMatches :
    let s := replied (.ping 5) [0, 0, 5, 0, 0, 0]
    let v := verified (replied (.ping 5) [0xFF, 0xFF, 0x06, 0x02, 0x00, 0xF7])
    (s.seq = .seqRx ∧ s.rstate = .success ∧ s.curOp = some (.ping 5) ∧ s.rxbuf = some [0, 0, 5, 0, 0, 0] ∧
      s.scanActive = false ∧ s.cfgReplyCheck = some .trust) ∧
      (v.scanActive = false ∧ v.cfgReplyCheck = some .verify ∧ v.pChkOk = some true) := by decide

theorem witness_GetPositionAnswersTheUnsignedValue :
    let bs : Frame := [0xFF, 0xFF, 0x01, 0x04, 0x00, 0xFF, 0xFF, 0xFC]
    let s := replied (.getPosition 1) bs
    (s.seq = .seqRx ∧ s.rstate = .success ∧ s.curOp = some (.getPosition 1) ∧ s.rxbuf = some bs ∧
      s.cfgReplyCheck = some .trust) ∧
      ((verified s).cfgReplyCheck = some .verify ∧ (verified s).pChkOk = some true) := by decide

theorem witness_BadChecksumUnderVerifyIsAnError :
    let bs : Frame := [0xFF, 0xFF, 0x01, 0x04, 0x00, 0x64, 0x00, 0x00]
    let s := verified (replied (.getPosition 1) bs)
    (Instr.getPosition 1).replyLength = some 8 ∧ s.seq = .seqRx ∧ s.rstate = .success ∧
      s.curOp = some (.getPosition 1) ∧ s.rxbuf = some bs ∧ s.scanActive = false ∧
      s.cfgReplyCheck = some .verify ∧ s.pChkOk = some false := by decide

theorem witness_FailedReadEndsWithItsReason :
    let s := failed (.ping 5) 6
    (Instr.ping 5).replyLength = some 6 ∧ s.seq = .seqRx ∧ s.rstate = .failed ∧ s.curOp = some (.ping 5) ∧
      s.rerr = some .transportReadFailed ∧ s.scanActive = false := by decide

theorem witness_ErrorEntryWritesResultAndEndsTheOperation :
    (failed (.ping 5) 6).scanActive = false ∧
      ((inScan 255 256 (failed (.ping 0xFF) 6)).scanActive = true ∧
        (inScan 255 256 (failed (.ping 0xFF) 6)).scanNext = some 255) := by decide

theorem witness_UnansweredRequestLeavesTheBlockStuck :
    Machine.Inv (polling (.ping 5) 6 2 []) ∧ (polling (.ping 5) 6 2 []).inputs = [] ∧
      (polling (.ping 5) 6 2 []).outstanding = some (.txPoll 50) ∧
      Machine.Inv (reading (.ping 5) 6 []) ∧ (reading (.ping 5) 6 []).outstanding = some (.txRead 6) :=
  ⟨polling_inv _, rfl, rfl, reading_inv _, rfl⟩

theorem witness_StepRunsTheRowItTakes_command :
    let s := ready [.command (.op (.reboot 1 2 [0xF4]))]
    s.seq = .seqIdle ∧ s.inputs = [.command (.op (.reboot 1 2 [0xF4]))] := by decide

theorem witness_StepRunsTheRowItTakes_reply :
    let bs : Frame := [0, 0, 5, 0, 0, 0]
    let s := reading (.ping 5) 6 [.answer (.read (.readOk bs))]
    s.seq = .seqRx ∧ s.rstate = .reading ∧ decodeReply bs = .ok (.pingReply 0 0 5 0 0 0) := by decide

theorem witness_StepRunsTheRowItTakes_busy :
    let s := tx (.move 1 512) [.answer (.write .writeErr)]
    s.seq ≠ .seqIdle ∧ s.curOp = some (.move 1 512) ∧ (Instr.move 1 512).isReply = false ∧
      preempts s.inputs = false ∧ fetchReply s = none := by decide

theorem witness_StepRunsTheRowItTakes_word :
    decodeTableWord 48 0 = some (.pingReply 0 0 0 0 0 0) ∧ decodeTableWord 48 0xFFFF050201F7 = some (.ping 5) := by
  decide

/-! ## Hypotheses met: scan -/

theorem witness_ScanStartsWithItsFirstPing :
    (ready [.command (.scan 0 256)]).admits ∧ (256 < 257) ∧ (256 ≤ 256 ∧ 256 ≤ 256) ∧ (256 ≤ 256 ∧ 0 < 256) :=
  ⟨ready_admits _, by decide, by decide, by decide⟩

theorem witness_ScanPostsOneItemPerPing :
    let s := inScan 255 256 (replied (.ping 0xFF) [0, 0, 0xFF, 0, 0, 0])
    s.seq = .seqRx ∧ s.rstate = .success ∧ s.curOp = some (.ping 0xFF) ∧ s.rxbuf = some [0, 0, 0xFF, 0, 0, 0] ∧
      s.cfgReplyCheck = some .trust ∧ s.scanActive = true ∧ s.scanNext = some 255 ∧ s.scanFound = some [] ∧
      ((0xFF : Byte) = 0xFF → s.scanFound ≠ none) ∧
      (0xFF : Byte) = BitVec.ofNat 8 255 := by decide

theorem witness_ScanPostsOneItemPerPing_absent :
    let s : State := { inScan 0 256 (replied (.ping 0) [0, 0, 0xFF, 0, 0, 0]) with scanFound := none }
    s.seq = .seqRx ∧ s.rstate = .success ∧ s.curOp = some (.ping 0) ∧ s.rxbuf = some [0, 0, 0xFF, 0, 0, 0] ∧
      s.cfgReplyCheck = some .trust ∧ s.scanActive = true ∧ s.scanNext = some 0 ∧
      ((0xFF : Byte) = 0 → s.scanFound ≠ none) ∧ (0 : Byte) = BitVec.ofNat 8 0 := by decide

theorem witness_ScanEndsAtItsFirstError_read :
    let s := inScan 3 4 (failed (.ping 3) 6)
    s.curOp = some (.ping 3) ∧ s.scanActive = true ∧ s.scanNext = some 3 ∧ s.seq = .seqRx ∧ s.rstate = .failed ∧
      s.rerr = some .transportReadFailed := by decide

theorem witness_ScanEndsAtItsFirstError_write :
    let s := inScan 3 4 (tx (.ping 3) [.answer (.write (.writeOk 5))])
    s.curOp = some (.ping 3) ∧ s.scanActive = true ∧ s.scanNext = some 3 ∧ s.seq = .seqTx ∧
      s.txbuf = some (encode (.ping 3)) ∧ WriteAnswer.writeOk 5 ≠ .writeOk (encode (.ping 3)).length := by decide

theorem witness_ScanEndsAtItsFirstError_checksum :
    let s := inScan 3 4 (verified (replied (.ping 3) [0xFF, 0xFF, 0x03, 0x02, 0x00, 0x00]))
    s.curOp = some (.ping 3) ∧ s.scanActive = true ∧ s.scanNext = some 3 ∧ s.seq = .seqRx ∧ s.rstate = .success ∧
      s.rxbuf = some [0xFF, 0xFF, 0x03, 0x02, 0x00, 0x00] ∧ s.cfgReplyCheck = some .verify ∧
      s.pChkOk = some false := by decide

theorem witness_HostGoesOnOrAbandonsBetweenItems :
    let s := fun x n => inScan n 4 (ready [x])
    ((s .scanAbandon 2).seq = .seqIdle ∧ (s .scanAbandon 2).scanActive = true ∧
      (s .scanAbandon 2).scanNext = some 2 ∧ (s .scanAbandon 2).scanHi = some 4) ∧
      ((s .scanContinue 3).scanNext = some 3 ∧ 3 < 4) ∧ ((s .scanContinue 4).scanNext = some 4 ∧ 4 ≤ 4) := by decide

/-! ## Hypotheses met: whole operations -/

theorem witness_WriteOnlyOperationsRunToTheirResult_written :
    let i := Instr.move 1 1023
    let s := fun a => ready [.command (.op i), .answer (.write a)]
    i.isRequest = true ∧ i.replyLength = none ∧ i.wf = true ∧ (s (.writeOk 9)).admits ∧
      (s .writeErr).operationEnded ∧ WriteAnswer.writeOk 9 = .writeOk (encode i).length ∧
      WriteAnswer.writeOk 8 ≠ .writeOk (encode i).length :=
  ⟨by decide, by decide, by decide, ready_admits _, ready_ended _, by decide, by decide⟩

theorem witness_WriteOnlyOperationsRunToTheirResult_range :
    let i := Instr.setSpeed 1 1024
    i.isRequest = true ∧ i.replyLength = none ∧ i.wf = false ∧ (ready [.command (.op i)]).admits ∧
      (ready [.command (.op i)]).operationEnded :=
  ⟨by decide, by decide, by decide, ready_admits _, ready_ended _⟩

theorem witness_PingRunsToItsResult :
    let reply : Frame := [0xFF, 0xFF, 0x05, 0x02, 0x00, 0xF8]
    let s := ready (.command (.op (.ping 5)) :: (exchange 6 2 reply ++ []))
    s.admits ∧ s.operationEnded ∧ s.cfgMaxRetries = some 3 ∧ s.cfgPollTimeout = some 50 ∧
      s.cfgTimeoutPolicy = some .retryOnTimeout ∧ s.cfgReplyCheck = some .trust ∧ 2 < 3 ∧ reply.length = 6 ∧
      chkOk reply = true ∧ preempts [] = false :=
  ⟨ready_admits _, ready_ended _, by decide, by decide, by decide, by decide, by decide, by decide, by decide, by decide⟩

theorem witness_GetPositionRunsToItsResult :
    let reply : Frame := [0xFF, 0xFF, 0x01, 0x04, 0x00, 0x64, 0x00, 0x96]
    let s := ready (.command (.op (.getPosition 1)) :: (exchange 8 0 reply ++ []))
    s.admits ∧ s.operationEnded ∧ s.cfgMaxRetries = some 3 ∧ s.cfgPollTimeout = some 50 ∧
      s.cfgTimeoutPolicy = some .retryOnTimeout ∧ s.cfgReplyCheck = some .trust ∧ 0 < 3 ∧ chkOk reply = true :=
  ⟨ready_admits _, ready_ended _, by decide, by decide, by decide, by decide, by decide, by decide⟩

theorem witness_SilentTransportExhaustsTheBudget :
    let s := ready ([.command (.op (.ping 1)), .answer (.write (.writeOk 6))] ++
      List.replicate 3 (Input.answer (.poll .timeout)) ++ [])
    (Instr.ping 1).replyLength = some 6 ∧ s.admits ∧ s.operationEnded ∧ s.cfgMaxRetries = some 3 ∧
      s.cfgTimeoutPolicy = some .retryOnTimeout ∧
      3 = (if TimeoutPolicy.retryOnTimeout = .retryOnTimeout then 3 else 1) ∧
      1 = (if TimeoutPolicy.abortOnTimeout = .retryOnTimeout then 3 else 1) :=
  ⟨rfl, ready_admits _, ready_ended _, rfl, rfl, by decide, by decide⟩

theorem witness_ControllerStepsMatchReadExact :
    let s := rx (.ping 5) [.answer (.poll .timeout), .answer (.poll .ready)]
    (Instr.ping 5).replyLength = some 6 ∧ s.seq = .seqRx ∧ s.rstate = .idle ∧ s.curOp = some (.ping 5) ∧
      s.cfgMaxRetries = some 3 ∧ s.cfgPollTimeout = some 50 ∧ s.cfgTimeoutPolicy = some .retryOnTimeout ∧
      (∀ x ∈ s.inputs, x ≠ .reset ∧ x ≠ .closeSession) := by decide

theorem witness_AnsweredScanYieldsTheMatchingIds :
    let replies : List Frame := [[0xFF, 0xFF, 0xFF, 0x02, 0x00, 0xFE]]
    let s := ready (.command (.scan 255 256) :: (scanInputs replies ++ []))
    s.admits ∧ s.operationEnded ∧ s.scanning ∧ s.cfgMaxRetries = some 3 ∧ 255 ≤ 256 ∧
      replies.length = 256 - 255 ∧ ∀ r ∈ replies, r.length = 6 ∧ chkOk r = true :=
  ⟨ready_admits _, ready_ended _, ⟨rfl, rfl, rfl⟩, rfl, by decide, by decide, by decide⟩

theorem witness_RequestsTakeTurnsWithinTheBudget :
    let s : State := { polling (.ping 5) 6 2 [.answer (.poll .ready)] with
      outputs := [.request (.txWrite (encodePing 5)), .request (.txPoll 50), .request (.txPoll 50)] }
    Machine.Inv s ∧ s.turn ∧ (nextOf (step s)).map (fun t => busPhase t.outputs) = some (some (.polled 3)) :=
  ⟨⟨(polling_inv []).config, (polling_inv []).sequence, (polling_inv []).scan⟩, rfl, by decide⟩

theorem witness_AnsweredOperationsComeToAnEnd :
    let s := polling (.ping 5) 6 2 [.answer (.poll .timeout)]
    Machine.Inv s ∧ s.seq ≠ .seqIdle ∧ preempts s.inputs = false ∧
      ∀ q, s.outstanding = some q → answered q s.inputs = true := by
  refine ⟨polling_inv _, by decide, rfl, ?_⟩
  rintro q ⟨⟩
  rfl

/-- Between two items of a scan, the invariant holds. -/
theorem between_inv (n : Nat) (h : n ≤ 256) (l : List Input) : Machine.Inv (inScan n 256 (ready l)) :=
  ⟨.inr (ready_configured l), ready_ended l,
    ⟨n, 256, [], rfl, rfl, rfl, h, Nat.le_refl _, .nil, by simp, fun hq => absurd rfl hq⟩⟩

theorem witness_AnsweredScansComeToAnEnd_between :
    let s := fun x n => inScan n 256 (ready [x])
    Machine.Inv (s .scanContinue 255) ∧ Machine.Inv (s .scanContinue 256) ∧ Machine.Inv (s .scanAbandon 0) ∧
      (s .scanContinue 255).scanActive = true ∧ preempts (s .scanContinue 255).inputs = false ∧
      (s .scanContinue 255).outstanding = none :=
  ⟨between_inv _ (by decide) _, between_inv _ (by decide) _, between_inv _ (by decide) _, rfl, rfl, rfl⟩

theorem witness_AnsweredScansComeToAnEnd_busy :
    let s := inScan 5 256 (polling (.ping 5) 6 2 [.answer (.poll .timeout)])
    Machine.Inv s ∧ s.scanActive = true ∧ s.seq ≠ .seqIdle ∧ preempts s.inputs = false ∧
      ∀ q, s.outstanding = some q → answered q s.inputs = true := by
  refine ⟨⟨.inr (ready_configured []), (polling_inv []).sequence, ?_⟩, rfl, by decide, rfl, ?_⟩
  · exact ⟨5, 256, [], rfl, rfl, rfl, by decide, by decide, .nil, by simp, fun _ => ⟨by decide, rfl⟩⟩
  · rintro q ⟨⟩
    rfl

end Sys2Proof.Tests
end

section
/-! PROOF. Family 30_encoding.md: the two ways a table word finds its row, and the sample words. -/

namespace Sys2Proof

/-- The rows with a mask come first: what the request decoder accepts is the row of the word. -/
theorem decodeTableWord_of_request {nbits w : Nat} {i : Instr}
    (h : decodeRequest (tableBytes (nbits / 8) w) = .ok i) : decodeTableWord nbits w = some i := by
  simp [decodeTableWord, decode, h, Except.toOption]

/-- A word the request decoder rejects, whatever the reason, is told by its length (30_encoding.md R81). -/
theorem decodeTableWord_of_reply {nbits w : Nat} {e : DecodeError} {i : Instr}
    (hrequest : decodeRequest (tableBytes (nbits / 8) w) = .error e)
    (hreply : decodeReply (tableBytes (nbits / 8) w) = .ok i) : decodeTableWord nbits w = some i := by
  simp [decodeTableWord, decode, hrequest, hreply, Except.toOption]

/-- Settles O10. Six words are request frames; the two reply words carry the status byte 0x00 where a request
has INSTR, which is no code of R73, so their length decides. -/
theorem sampleWordsDecodeToTheirRows : Obligations.SampleWordsDecodeToTheirRows := by
  unfold Obligations.SampleWordsDecodeToTheirRows
  refine ⟨?ping, ?setId, ?move, ?getPosition, ?setSpeed, ?pingReply, ?positionReply, ?syncWrite⟩
  case ping => exact decodeTableWord_of_request (by decide)
  case setId => exact decodeTableWord_of_request (by decide)
  case move => exact decodeTableWord_of_request (by decide)
  case getPosition => exact decodeTableWord_of_request (by decide)
  case setSpeed => exact decodeTableWord_of_request (by decide)
  case pingReply => exact decodeTableWord_of_reply (e := .unknownInstr 0x00) (by decide) (by decide)
  case positionReply => exact decodeTableWord_of_reply (e := .unknownInstr 0x00) (by decide) (by decide)
  case syncWrite => exact decodeTableWord_of_request (by decide)

end Sys2Proof
end

section
/-! PROOF. Family 40_framer.md: the checksum, the frame layout and the request frames byte by byte. -/

namespace Sys2Proof.Machine

/-! ## Checksum and layout -/

@[simp] theorem byteSum_nil : byteSum [] = 0 := rfl

@[simp] theorem byteSum_cons (b : Byte) (bs : Frame) : byteSum (b :: bs) = b.toNat + byteSum bs := rfl

/-- The difference of R100 is below 256, so the byte holds it whole. -/
theorem checksum_toNat (body : Frame) : (checksum body).toNat = 255 - byteSum body % 256 := by
  rw [checksum, BitVec.toNat_ofNat]
  omega

/-- A complemented byte is 255 less the byte, so R100 reads as the complement of the sum's low byte. -/
theorem checksum_eq_not (body : Frame) : checksum body = ~~~ BitVec.ofNat 8 (byteSum body) := by
  apply BitVec.eq_of_toNat_eq
  rw [checksum_toNat, BitVec.toNat_not, BitVec.toNat_ofNat]

/-- With 253 parameters or fewer, LEN fits its byte and does not wrap (40_framer.md R104). -/
theorem len_toNat {params : Frame} (h : params.length ≤ 253) :
    (BitVec.ofNat 8 (params.length + 2)).toNat = params.length + 2 := by
  rw [BitVec.toNat_ofNat]
  omega

/-- The layout of R104 with the last byte as a function of the sum of the bytes before it. -/
theorem frame_eq_of_byteSum {id instr : Byte} {params : Frame} {n : Nat}
    (h : byteSum (frameBody id instr params) = n) :
    frame id instr params =
      0xFF :: 0xFF :: (frameBody id instr params ++ [BitVec.ofNat 8 (255 - n % 256)]) := by
  rw [frame, checksum, h, sentinel]

/-! ## The range check and the two bytes of a raw value -/

theorem validRaw_iff (raw : Int) : validRaw raw = true ↔ 0 ≤ raw ∧ raw ≤ 1023 := by
  simp [validRaw]

/-- The split of 30_encoding.md R84; the high part is below 4, since 1023 = 255 + 256 * 3. -/
theorem exists_bytes_of_validRaw {raw : Int} (h : validRaw raw = true) :
    ∃ lo hi : Nat, lo < 256 ∧ hi < 4 ∧ raw = (lo : Int) + 256 * hi := by
  obtain ⟨hmin, hmax⟩ := (validRaw_iff raw).mp h
  exact ⟨raw.toNat % 256, raw.toNat / 256, by omega, by omega, by omega⟩

theorem validRaw_of_bytes {lo hi : Nat} (hlo : lo < 256) (hhi : hi < 4) :
    validRaw ((lo : Int) + 256 * hi) = true :=
  (validRaw_iff _).mpr ⟨by omega, by omega⟩

theorem rawLo_of_bytes {lo : Nat} (hi : Nat) (hlo : lo < 256) :
    rawLo ((lo : Int) + 256 * hi) = BitVec.ofNat 8 lo := by
  rw [rawLo]
  congr 1
  omega

theorem rawHi_of_bytes {lo : Nat} (hi : Nat) (hlo : lo < 256) :
    rawHi ((lo : Int) + 256 * hi) = BitVec.ofNat 8 hi := by
  rw [rawHi]
  congr 1
  omega

/-! ## The request frames -/

theorem encodePing_bytes (id : Byte) :
    encodePing id = [0xFF, 0xFF, id, 0x02, 0x01, BitVec.ofNat 8 (255 - (id.toNat + 3) % 256)] :=
  frame_eq_of_byteSum (by simp [frameBody])

theorem encodeGetPosition_bytes (id : Byte) :
    encodeGetPosition id =
      [0xFF, 0xFF, id, 0x04, 0x02, 0x24, 0x02, BitVec.ofNat 8 (255 - (id.toNat + 44) % 256)] :=
  frame_eq_of_byteSum (by simp [frameBody])

/-- Move and set-speed are one frame, a write of two bytes, at two register addresses. -/
theorem writeWordFrame_bytes (id reg : Byte) {lo hi : Nat} (hlo : lo < 256) (hhi : hi < 256) :
    frame id 0x03 [reg, BitVec.ofNat 8 lo, BitVec.ofNat 8 hi] =
      [0xFF, 0xFF, id, 0x05, 0x03, reg, BitVec.ofNat 8 lo, BitVec.ofNat 8 hi,
        BitVec.ofNat 8 (255 - (id.toNat + (8 + reg.toNat) + lo + hi) % 256)] := by
  apply frame_eq_of_byteSum
  simp only [frameBody, byteSum_cons, byteSum_nil, BitVec.ofNat_eq_ofNat, BitVec.toNat_ofNat,
    List.length_cons, List.length_nil]
  omega

theorem moveFrame_bytes (id : Byte) {lo hi : Nat} (hlo : lo < 256) (hhi : hi < 4) :
    moveFrame id ((lo : Int) + 256 * hi) =
      [0xFF, 0xFF, id, 0x05, 0x03, 0x1E, BitVec.ofNat 8 lo, BitVec.ofNat 8 hi,
        BitVec.ofNat 8 (255 - (id.toNat + 38 + lo + hi) % 256)] := by
  rw [moveFrame, rawLo_of_bytes hi hlo, rawHi_of_bytes hi hlo]
  exact writeWordFrame_bytes id 0x1E hlo (by omega)

theorem setSpeedFrame_bytes (id : Byte) {lo hi : Nat} (hlo : lo < 256) (hhi : hi < 4) :
    setSpeedFrame id ((lo : Int) + 256 * hi) =
      [0xFF, 0xFF, id, 0x05, 0x03, 0x20, BitVec.ofNat 8 lo, BitVec.ofNat 8 hi,
        BitVec.ofNat 8 (255 - (id.toNat + 40 + lo + hi) % 256)] := by
  rw [setSpeedFrame, rawLo_of_bytes hi hlo, rawHi_of_bytes hi hlo]
  exact writeWordFrame_bytes id 0x20 hlo (by omega)

theorem encodeMove_of_validRaw (id : Byte) {raw : Int} (h : validRaw raw = true) :
    encodeMove id raw = .ok (moveFrame id raw) := if_pos h

theorem encodeSetSpeed_of_validRaw (id : Byte) {raw : Int} (h : validRaw raw = true) :
    encodeSetSpeed id raw = .ok (setSpeedFrame id raw) := if_pos h

theorem encodeMove_of_not_validRaw (id : Byte) {raw : Int} (h : ¬ validRaw raw = true) :
    encodeMove id raw = .error .invalidRange := if_neg h

theorem encodeSetSpeed_of_not_validRaw (id : Byte) {raw : Int} (h : ¬ validRaw raw = true) :
    encodeSetSpeed id raw = .error .invalidRange := if_neg h

/-- Settles O3. The frames are the layout of R104 at the requests' parameters; a raw value passes the range
check exactly when it has a low byte and a high part below 4, and outside the range no frame is given. -/
theorem encodersGiveTheRequestFrames : Obligations.EncodersGiveTheRequestFrames := by
  unfold Obligations.EncodersGiveTheRequestFrames
  refine fun id raw => ⟨encodePing_bytes id, encodeGetPosition_bytes id, ?bytes, ?split, ?outside⟩
  case bytes =>
    rintro lo hi hlo hhi rfl
    have hvalid := validRaw_of_bytes hlo hhi
    rw [encodeMove_of_validRaw id hvalid, encodeSetSpeed_of_validRaw id hvalid,
      moveFrame_bytes id hlo hhi, setSpeedFrame_bytes id hlo hhi]
    exact ⟨rfl, rfl⟩
  case split =>
    exact fun hmin hmax => exists_bytes_of_validRaw ((validRaw_iff raw).mpr ⟨hmin, hmax⟩)
  case outside =>
    intro hout
    have hinvalid : ¬ validRaw raw = true := by rw [validRaw_iff]; omega
    exact ⟨encodeMove_of_not_validRaw id hinvalid, encodeSetSpeed_of_not_validRaw id hinvalid⟩

/-- Settles O1. The layout is the frame's definition; LEN fits its byte by the bound on the parameters, and
the complement form of the checksum holds of every body. -/
theorem frameIsHeaderBodyAndChecksum : Obligations.FrameIsHeaderBodyAndChecksum := by
  unfold Obligations.FrameIsHeaderBodyAndChecksum
  refine ⟨fun id instr params hlen => ⟨len_toNat hlen, ?layout⟩,
    fun body => ⟨checksum_toNat body, checksum_eq_not body⟩⟩
  case layout => exact frame_eq_of_byteSum rfl

end Sys2Proof.Machine
end

section
/-! PROOF. Family 41_parser.md: the validator of a received frame. -/

namespace Sys2Proof.Machine

/-- `s[2 .. L-1]` (41_parser.md R144): a frame less its two header bytes and its last byte. -/
@[simp] theorem coveredBytes_header_body_chk (h0 h1 chk : Byte) (body : Frame) :
    coveredBytes (h0 :: h1 :: (body ++ [chk])) = body :=
  List.dropLast_concat

/-- The sum form of R144: the bytes after the header and the last byte; the header does not occur in it. -/
theorem chkOk_iff_sum (h0 h1 chk : Byte) (body : Frame) :
    chkOk (h0 :: h1 :: (body ++ [chk])) = true ↔ (byteSum body + chk.toNat) % 256 = 255 := by
  have hlast : (h0 :: h1 :: (body ++ [chk])).getLast? = some chk :=
    List.getLast?_concat (l := h0 :: h1 :: body)
  simp [chkOk, hlast]

/-- Exactly one byte closes the sum to 255: the checksum of 40_framer.md R100. -/
theorem sum_closes_iff_eq_checksum (body : Frame) (chk : Byte) :
    (byteSum body + chk.toNat) % 256 = 255 ↔ chk = checksum body := by
  have hlt : chk.toNat < 256 := chk.isLt
  rw [← BitVec.toNat_inj, checksum_toNat]
  omega

/-- The checksum form of R144. -/
theorem chkOk_iff_eq_checksum (h0 h1 chk : Byte) (body : Frame) :
    chkOk (h0 :: h1 :: (body ++ [chk])) = true ↔ chk = checksum body :=
  (chkOk_iff_sum h0 h1 chk body).trans (sum_closes_iff_eq_checksum body chk)

/-- Settles O11. The two forms are those of any header and any body, here the body `ID`, `LEN`, `INSTR` and the
parameters; in the corner cases of R144 the sum is 255, then 4 * 255 with the low byte 0xFC. -/
theorem validatorMeansTheChecksumMatches : Obligations.ValidatorMeansTheChecksumMatches := by
  unfold Obligations.ValidatorMeansTheChecksumMatches
  refine ⟨fun h0 h1 id lenf instr chk params => ⟨?sum, ?checksum⟩, ?zeros, ?noHeader, ?noLen, ?ones⟩
  case sum => exact chkOk_iff_sum h0 h1 chk ([id, lenf, instr] ++ params)
  case checksum => exact chkOk_iff_eq_checksum h0 h1 chk ([id, lenf, instr] ++ params)
  case zeros => decide
  case noHeader => decide
  case noLen => decide
  case ones => decide

end Sys2Proof.Machine
end

section
/-! PROOF. Family 42_poll_controller.md: the answer to a poll, and where the bytes in RXBUF come from. -/

namespace Sys2Proof.Machine

/-! ## A poll of an operation in progress -/

theorem opPhase_of_seqRx {i : Instr} {start tx rx : State → Out} {s : State} (hs : s.seq = .seqRx)
    (hc : s.curOp = some i) : opPhase i start tx rx s = rx s := by
  simp [opPhase, hs, hc]

theorem rxPhase_of_polling {n : Nat} {finish : Frame → State → Out} {s : State} (hr : s.rstate = .polling) :
    rxPhase n finish s = pollStep s := by
  simp [rxPhase, hr]

/-- A reading operation whose controller is in Polling takes one attempt (R172, R173). -/
theorem exec_of_polling {i : Instr} {n : Nat} {s : State} (hn : i.replyLength = some n) (hs : s.seq = .seqRx)
    (hr : s.rstate = .polling) (hc : s.curOp = some i) : exec i s = pollStep s := by
  obtain ⟨id, rfl, -⟩ | ⟨id, rfl, -⟩ := replyLength_some hn
  · exact (opPhase_of_seqRx hs hc).trans (rxPhase_of_polling hr)
  · exact (opPhase_of_seqRx hs hc).trans (rxPhase_of_polling hr)

/-- Settles O29. The answer to a poll is looked at after the attempt is counted, and for a poll error neither
the budget nor the policy is read. -/
theorem pollErrorFailsTheReadAtOnce : Obligations.PollErrorFailsTheReadAtOnce := by
  unfold Obligations.PollErrorFailsTheReadAtOnce
  intro i n m tm s rest hn hs hr hc hm htm hlt hin
  rw [exec_of_polling hn hs hr hc]
  exact pollStep_next.mpr ⟨m, tm, .pollErr, rest, hm, htm, hlt, hin, rfl⟩

/-! ## RXBUF after each shared operation -/

theorem raise_rxbuf {e : ErrorKind} {s t : State} (h : raise e s = .next t) : t.rxbuf = none := by
  rcases raise_next.mp h with ⟨-, rfl⟩ | ⟨n, -, -, rfl⟩ <;> rfl

theorem scanHead_rxbuf {s t : State} (h : scanHead s = .next t) : t.rxbuf = s.rxbuf := by
  obtain ⟨n, hi, -, -, ⟨-, rfl⟩ | ⟨-, rfl⟩⟩ := scanHead_next.mp h <;> rfl

theorem scanItem_rxbuf {b : Bool} {s t : State} (h : scanItem b s = .next t) : t.rxbuf = none := by
  obtain ⟨n, -, ⟨-, f, -, rfl⟩ | ⟨-, rfl⟩⟩ := scanItem_next.mp h <;> rfl

theorem finishPing_rxbuf {b : Bool} {s t : State} (h : finishPing b s = .next t) : t.rxbuf = none := by
  rcases finishPing_next.mp h with ⟨-, rfl⟩ | ⟨-, h⟩
  · rfl
  · exact scanItem_rxbuf h

theorem pollAnswer_rxbuf {m : Nat} {a : PollAnswer} {s t : State} (h : pollAnswer m a s = .next t) :
    t.rxbuf = s.rxbuf := by
  rcases pollAnswer_next.mp h with ⟨-, rfl⟩ | ⟨-, rfl⟩ | ⟨-, -, -, rfl⟩ | ⟨-, -, rfl⟩ <;> rfl

/-- The answer to TxRead: all of the bytes asked for, or a failed read that leaves RXBUF alone (R176). -/
theorem readAnswer_rxbuf {a : ReadAnswer} {s t : State} (h : readAnswer a s = .next t) :
    (∃ bs, a = .readOk bs ∧ s.rxn = some bs.length ∧ t.rxbuf = some bs ∧ t.rstate = .success) ∨
    ((∀ bs, a = .readOk bs → s.rxn ≠ some bs.length) ∧ t.rxbuf = s.rxbuf ∧ t.rstate = .failed) := by
  obtain ⟨n, hn, ⟨bs, ha, rfl, rfl⟩ | ⟨hlen, rfl⟩⟩ := readAnswer_next.mp h
  · exact .inl ⟨bs, ha, hn, rfl, rfl⟩
  · refine .inr ⟨fun bs ha hbs => hlen bs ha ?_, rfl, rfl⟩
    exact Option.some.inj (hbs.symm.trans hn)

/-! ## RXBUF over every step -/

/-- RXBUF takes the bytes `bs` that answer the outstanding TxRead, all RXN of them (R181). -/
def State.readsExactly (bs : Frame) (s : State) : Prop :=
  s.rstate = .reading ∧ s.rxn = some bs.length ∧ ∃ rest, s.inputs = .answer (.read (.readOk bs)) :: rest

/-- Every transition clears RXBUF, leaves it alone, or is the exact read. -/
theorem Transition.rxbuf_cases {s t : State} (h : Transition s t) :
    t.rxbuf = none ∨ t.rxbuf = s.rxbuf ∨ ∃ bs, t.rxbuf = some bs ∧ s.readsExactly bs := by
  cases h with
  | close | encoded | scanGiveUp | begin | written | invoke => exact .inr (.inl rfl)
  | scanBegin _ _ _ h => exact .inr (.inl (scanHead_rxbuf h :))
  | scanGoOn _ _ _ h => exact .inr (.inl (scanHead_rxbuf h :))
  | rejected _ _ _ _ h => exact .inl (raise_rxbuf h)
  | writeFailed _ _ _ _ _ h => exact .inl (raise_rxbuf h)
  | badChecksum _ _ _ _ _ h => exact .inl (raise_rxbuf h)
  | readFailed _ _ _ _ h => exact .inl (raise_rxbuf h)
  | pinged _ _ _ _ _ _ h => exact .inl (finishPing_rxbuf h)
  | polled _ _ _ _ _ _ _ h => exact .inr (.inl (pollAnswer_rxbuf h :))
  | read _ hr hin h =>
    obtain ⟨bs, rfl, hn, hbs, -⟩ | ⟨-, hkeep, -⟩ := readAnswer_rxbuf h
    · exact .inr (.inr ⟨bs, hbs, hr, hn, _, hin⟩)
    · exact .inr (.inl hkeep)
  -- A reset, a session start and the two results that end an operation clear RXBUF (10_state.md R40, R42).
  | _ => exact .inl rfl

/-! ## Reading -/

/-- Out of Idle, the controller belongs to an operation that awaits its reply (10_state.md R26, R29). -/
theorem Inv.seqRx_of_rstate {s : State} (hi : Inv s) (hr : s.rstate ≠ .idle) : s.seq = .seqRx := by
  have hq := hi.sequence
  cases hs : s.seq with
  | seqIdle =>
    simp only [State.sequencing, hs] at hq
    obtain ⟨-, -, -, hidle, -⟩ := hq
    exact absurd hidle hr
  | seqTx =>
    simp only [State.sequencing, hs] at hq
    obtain ⟨-, hidle, -⟩ := hq
    exact absurd hidle hr
  | seqRx => rfl

/-- Until its read succeeds an operation has no reply bytes. -/
theorem Inv.rxbuf_of_reading {s : State} (hi : Inv s) (hr : s.rstate = .reading) : s.rxbuf = none := by
  have hs : s.seq = .seqRx := hi.seqRx_of_rstate (by simp [hr])
  have hq := hi.sequence
  simp only [State.sequencing, hs, State.readRegisters, hr] at hq
  obtain ⟨i, n, -, -, -, hbuf, -⟩ := hq
  exact hbuf

/-- A step from Reading is a reset, a close of the session, or the answer to TxRead (R178). -/
theorem Transition.of_reading {s t : State} (h : Transition s t) (hs : s.seq = .seqRx)
    (hr : s.rstate = .reading) :
    (∃ rest, s.inputs = .reset :: rest ∧ t.rstate = .idle) ∨
    (∃ rest, s.inputs = .closeSession :: rest ∧ t.rstate = .reading) ∨
    (∃ a rest, s.inputs = .answer (.read a) :: rest ∧ readAnswer a (s.took rest) = .next t) := by
  cases h with
  | reset hin => exact .inl ⟨_, hin, rfl⟩
  | close hin => exact .inr (.inl ⟨_, hin, hr⟩)
  | read _ _ hin h => exact .inr (.inr ⟨_, _, hin, h⟩)
  -- Every other transition needs another SEQ or another RSTATE.
  | _ => simp_all [State.admits]

/-- Reading never returns to Polling (R181). -/
theorem Transition.rstate_ne_polling_of_reading {s t : State} (h : Transition s t) (hs : s.seq = .seqRx)
    (hr : s.rstate = .reading) : t.rstate ≠ .polling := by
  obtain ⟨_, -, ht⟩ | ⟨_, -, ht⟩ | ⟨a, rest, -, h⟩ := h.of_reading hs hr
  · simp [ht]
  · simp [ht]
  · obtain ⟨bs, -, -, -, ht⟩ | ⟨-, -, ht⟩ := readAnswer_rxbuf h <;> simp [ht]

/-- An answer of the wrong length fails the read and writes no byte (R176). -/
theorem Transition.failed_of_wrong_length {s t : State} {bs : Frame} {rest : List Input} (h : Transition s t)
    (hs : s.seq = .seqRx) (hr : s.rstate = .reading) (hin : s.inputs = .answer (.read (.readOk bs)) :: rest)
    (hlen : s.rxn ≠ some bs.length) : t.rxbuf = s.rxbuf ∧ t.rstate = .failed := by
  obtain ⟨_, hin', -⟩ | ⟨_, hin', -⟩ | ⟨a, rest', hin', h⟩ := h.of_reading hs hr <;> cases hin.symm.trans hin'
  obtain ⟨_, ⟨⟩, hn, -, -⟩ | ⟨-, hbuf, ht⟩ := readAnswer_rxbuf h
  · exact absurd hn hlen
  · exact ⟨hbuf, ht⟩

/-- Settles O34. The exact read is the one transition that puts bytes into RXBUF; from Reading, which has no
bytes yet, an answer ends the read one way or the other. -/
theorem replyBytesComeFromOneExactRead : Obligations.ReplyBytesComeFromOneExactRead := by
  unfold Obligations.ReplyBytesComeFromOneExactRead
  intro s t hi hstep
  have htr : Transition s t := step_transition hstep
  refine ⟨fun bs ht hne => ?bytes, fun hr => ?reading⟩
  case bytes =>
    rcases htr.rxbuf_cases with hnone | hkeep | ⟨bs', hbs', hread⟩
    · exact absurd (hnone.symm.trans ht) (by simp)
    · exact absurd (hkeep.symm.trans ht) hne
    · obtain rfl : bs' = bs := Option.some.inj (hbs'.symm.trans ht)
      exact hread
  case reading =>
    have hs : s.seq = .seqRx := hi.seqRx_of_rstate (by simp [hr])
    refine ⟨htr.rstate_ne_polling_of_reading hs hr, fun bs rest hin hlen => ?_⟩
    obtain ⟨hbuf, hfailed⟩ := htr.failed_of_wrong_length hs hr hin hlen
    exact ⟨hbuf.trans (hi.rxbuf_of_reading hr), hfailed⟩

end Sys2Proof.Machine
end

section
/-! PROOF. Family 60_exceptions.md: error entry, and the range check before any request. -/

namespace Sys2Proof.Machine

/-! ## Error entry -/

theorem raise_of_scanActive_false (e : ErrorKind) {s : State} (h : s.scanActive = false) :
    raise e s = .next (s.endOperation.post (.error e)) :=
  raise_next.mpr (.inl ⟨h, rfl⟩)

theorem raise_of_scanActive_true (e : ErrorKind) {s : State} {n : Nat} (h : s.scanActive = true)
    (hn : s.scanNext = some n) :
    raise e s = .next (s.endOperation.endScan.post (.scanFailed (scanId n) e)) :=
  raise_next.mpr (.inr ⟨n, h, hn, rfl⟩)

/-- Settles O39. The registers listed are those of R42, in a scan with the four of R36, and RESULT is posted. -/
theorem errorEntryWritesResultAndEndsTheOperation : Obligations.ErrorEntryWritesResultAndEndsTheOperation := by
  unfold Obligations.ErrorEntryWritesResultAndEndsTheOperation
  exact fun e s => ⟨raise_of_scanActive_false e, fun n => raise_of_scanActive_true e⟩

/-! ## A command that does not start -/

/-- Where the last operation's registers lost their values already, ending it again changes nothing (R42). -/
theorem State.endOperation_of_operationEnded {s : State} (h : s.operationEnded) : s.endOperation = s := by
  cases s
  obtain ⟨rfl, rfl, rfl, rfl, rfl, rfl, rfl, rfl, rfl, rfl, rfl⟩ := h
  rfl

theorem opPhase_of_admits {i : Instr} {start tx rx : State → Out} {s : State} (h : s.admits) :
    opPhase i start tx rx s = start s := by
  have ⟨_, hseq, _⟩ := h
  rw [opPhase, hseq]
  exact guarded_of_admits h start

/-- CUR_OP is written before the error is raised, and error entry takes it back. -/
theorem startChecked_error_of_operationEnded (i : Instr) (e : ErrorKind) {s : State} (ha : s.admits)
    (hended : s.operationEnded) : startChecked i (.error e) s = .next (s.post (.error e)) := by
  obtain ⟨-, -, hscan⟩ := ha
  calc startChecked i (.error e) s
      = raise e { s with curOp := some i } := rfl
    _ = .next (s.endOperation.post (.error e)) := raise_of_scanActive_false (s := { s with curOp := some i }) e hscan
    _ = .next (s.post (.error e)) := by rw [State.endOperation_of_operationEnded hended]

/-- An operation whose encoder rejects its operand ends in its first step, with no request (R241). -/
theorem opPhase_rejected {i : Instr} {r : Except ErrorKind Frame} {e : ErrorKind} {tx rx : State → Out} {s : State}
    (hr : r = .error e) (ha : s.admits) (hended : s.operationEnded) :
    opPhase i (startChecked i r) tx rx s = .next (s.post (.error e)) := by
  rw [opPhase_of_admits ha, hr]
  exact startChecked_error_of_operationEnded i e ha hended

/-- An encoder that rejects its operand posts the error (R115, R241). -/
theorem guarded_postFrame_rejected {r : Except ErrorKind Frame} {e : ErrorKind} {s : State} (hr : r = .error e)
    (ha : s.admits) : guarded s (postFrame r) = .next (s.post (.error e)) := by
  rw [guarded_of_admits ha, hr, postFrame]

/-- Settles O24. Each of the four raisers runs an encoder that gives InvalidRange in place of a frame, and
from there only the result is posted. -/
theorem invalidRangeComesBeforeAnyRequest : Obligations.InvalidRangeComesBeforeAnyRequest := by
  unfold Obligations.InvalidRangeComesBeforeAnyRequest
  intro id raw s hout ha hended
  have hinvalid : ¬ validRaw raw = true := by rw [validRaw_iff]; omega
  have hmove := encodeMove_of_not_validRaw id hinvalid
  have hspeed := encodeSetSpeed_of_not_validRaw id hinvalid
  exact ⟨opPhase_rejected hmove ha hended, opPhase_rejected hspeed ha hended,
    guarded_postFrame_rejected hmove ha, guarded_postFrame_rejected hspeed ha⟩

end Sys2Proof.Machine
end

section
/-! PROOF. Family other, 30_encoding.md: decoding gives an encoded row back, as bytes and as a table word. -/

namespace Sys2Proof

open Machine

/-! ## The request decoder -/

/-- Past the two sentinels the INSTR byte decides (30_encoding.md R73). -/
theorem decodeRequest_codeFrame (id len code : Byte) (rest : Frame) :
    decodeRequest (codeFrame id len code rest) = decodeBody id len code rest := by
  simp [decodeRequest, codeFrame]

/-- A frame of 40_framer.md R104 is the first five bytes, the parameters and the checksum. -/
theorem frame_eq_codeFrame (id code : Byte) (params : Frame) :
    frame id code params =
      codeFrame id (BitVec.ofNat 8 (params.length + 2)) code (params ++ [checksum (frameBody id code params)]) := rfl

theorem decodeRequest_frame (id code : Byte) (params : Frame) :
    decodeRequest (frame id code params) =
      decodeBody id (BitVec.ofNat 8 (params.length + 2)) code (params ++ [checksum (frameBody id code params)]) :=
  (congrArg decodeRequest (frame_eq_codeFrame id code params)).trans (decodeRequest_codeFrame ..)

/-- The two bytes of a raw value that passes the range check give it back (30_encoding.md R84, 20_memory.md R54). -/
theorem le16_rawLo_rawHi {raw : Int} (h : validRaw raw = true) : (le16 (rawLo raw) (rawHi raw) : Int) = raw := by
  obtain ⟨lo, hi, hlo, hhi, rfl⟩ := exists_bytes_of_validRaw h
  rw [rawLo_of_bytes hi hlo, rawHi_of_bytes hi hlo, le16, BitVec.toNat_ofNat, BitVec.toNat_ofNat]
  omega

/-- A write of two bytes is a move or a set-speed by its register address (R74, R77, R79). -/
theorem decodeRequest_moveFrame (id : Byte) {raw : Int} (h : validRaw raw = true) :
    decodeRequest (moveFrame id raw) = .ok (.move id raw) :=
  calc decodeRequest (moveFrame id raw)
      = .ok (.move id (le16 (rawLo raw) (rawHi raw))) := decodeRequest_frame id 0x03 [0x1E, rawLo raw, rawHi raw]
    _ = .ok (.move id raw) := by rw [le16_rawLo_rawHi h]

theorem decodeRequest_setSpeedFrame (id : Byte) {raw : Int} (h : validRaw raw = true) :
    decodeRequest (setSpeedFrame id raw) = .ok (.setSpeed id raw) :=
  calc decodeRequest (setSpeedFrame id raw)
      = .ok (.setSpeed id (le16 (rawLo raw) (rawHi raw))) := decodeRequest_frame id 0x03 [0x20, rawLo raw, rawHi raw]
    _ = .ok (.setSpeed id raw) := by rw [le16_rawLo_rawHi h]

/-- Every row of the request direction comes back from its bytes, the six codes of R82 whatever follows them. -/
theorem decodeRequest_encode {i : Instr} (hwf : i.wf = true) (hr : i.isReply = false) :
    decodeRequest (encode i) = .ok i := by
  cases i with
  | ping id => exact decodeRequest_frame id 0x01 []
  | setId oldId newId => exact decodeRequest_frame oldId 0x03 [0x03, newId]
  | move id raw => exact decodeRequest_moveFrame id hwf
  | getPosition id => exact decodeRequest_frame id 0x02 [0x24, 0x02]
  | setSpeed id raw => exact decodeRequest_setSpeedFrame id hwf
  | pingReply | positionReply => cases hr
  | regWrite id len rest => exact decodeRequest_codeFrame id len 0x04 rest
  | action id len rest => exact decodeRequest_codeFrame id len 0x05 rest
  | factoryReset id len rest => exact decodeRequest_codeFrame id len 0x06 rest
  | reboot id len rest => exact decodeRequest_codeFrame id len 0x08 rest
  | syncWrite id len rest => exact decodeRequest_codeFrame id len 0x83 rest
  | bulkRead id len rest => exact decodeRequest_codeFrame id len 0x92 rest

/-- A reply row is its bytes, and their number names it (R81). -/
theorem decodeReply_encode {i : Instr} (hr : i.isReply = true) : decodeReply (encode i) = .ok i := by
  cases i with
  | pingReply | positionReply => rfl
  | _ => cases hr

/-- Settles O5. The request rows are told by INSTR and the register address, the reply rows by their length. -/
theorem decodeRecoversEveryInstruction : Obligations.DecodeRecoversEveryInstruction := by
  unfold Obligations.DecodeRecoversEveryInstruction
  exact fun i hwf => ⟨decodeRequest_encode hwf, decodeReply_encode⟩

/-! ## Table words -/

theorem tableWord_lt (bs : Frame) : tableWord bs < 256 ^ bs.length := by
  induction bs with
  | nil => simp [tableWord]
  | cons b bs ih =>
    have hb : b.toNat + 1 ≤ 256 := b.isLt
    calc tableWord (b :: bs)
        < b.toNat * 256 ^ bs.length + 256 ^ bs.length := Nat.add_lt_add_left ih _
      _ = (b.toNat + 1) * 256 ^ bs.length := (Nat.succ_mul ..).symm
      _ ≤ 256 * 256 ^ bs.length := Nat.mul_le_mul_right _ hb
      _ = 256 ^ (b :: bs).length := (Nat.pow_succ').symm

/-- The `n` low bytes of a word do not depend on what stands above them. -/
theorem tableBytes_add_mul (n w k : Nat) : tableBytes n (w + k * 256 ^ n) = tableBytes n w := by
  induction n generalizing k with
  | zero => rfl
  | succ n ih =>
    have hsplit : w + k * 256 ^ (n + 1) = w + k * 256 * 256 ^ n := by rw [Nat.pow_succ', Nat.mul_assoc]
    have hbyte : (BitVec.ofNat 8 (w / 256 ^ n + k * 256) : Byte) = BitVec.ofNat 8 (w / 256 ^ n) := by
      apply BitVec.eq_of_toNat_eq
      simp
    rw [tableBytes, tableBytes, hsplit, ih, Nat.add_mul_div_right _ _ (Nat.pow_pos (by decide)), hbyte]

/-- A word gives back the frame it numbers (R86, log 1). -/
theorem tableBytes_tableWord (bs : Frame) : tableBytes bs.length (tableWord bs) = bs := by
  induction bs with
  | nil => rfl
  | cons b bs ih =>
    have hlow : tableBytes bs.length (b.toNat * 256 ^ bs.length + tableWord bs) = bs := by
      rw [Nat.add_comm, tableBytes_add_mul, ih]
    have hhigh : (b.toNat * 256 ^ bs.length + tableWord bs) / 256 ^ bs.length = b.toNat := by
      rw [Nat.add_comm, Nat.add_mul_div_right _ _ (Nat.pow_pos (by decide)), Nat.div_eq_of_lt (tableWord_lt bs),
        Nat.zero_add]
    rw [tableWord, List.length_cons, tableBytes, hlow, hhigh, BitVec.ofNat_toNat, BitVec.setWidth_eq]

/-- Settles O6. A word gives back its frame, and the rows with a mask are tried first. -/
theorem tableWordRecoversEveryRequest : Obligations.TableWordRecoversEveryRequest := by
  unfold Obligations.TableWordRecoversEveryRequest
  intro i hwf hr
  apply decodeTableWord_of_request
  rw [Nat.mul_div_cancel_left _ (by decide), tableBytes_tableWord]
  exact decodeRequest_encode hwf hr

end Sys2Proof
end

section
/-! PROOF. Family other, 40_framer.md: the checksum closes every frame, and the five rows the block emits. -/

namespace Sys2Proof.Machine

/-- R103: the body's sum and its checksum make 255, so the validator of R144 accepts every frame. -/
theorem chkOk_frame (id instr : Byte) (params : Frame) : chkOk (frame id instr params) = true :=
  (chkOk_iff_eq_checksum sentinel sentinel _ (frameBody id instr params)).mpr rfl

/-- Settles O2. The checksum is the one byte that closes the sum, and a byte holds the low eight bits only. -/
theorem checksumClosesTheSum : Obligations.ChecksumClosesTheSum := by
  unfold Obligations.ChecksumClosesTheSum
  refine ⟨fun body => (sum_closes_iff_eq_checksum body _).mpr rfl, chkOk_frame, fun v => ?mask⟩
  case mask =>
    have hlow : (BitVec.ofNat 8 v : Byte) = BitVec.ofNat 8 (v % 256) := by
      apply BitVec.eq_of_toNat_eq
      simp
    rw [hlow]

/-- Settles O4. The layout of R104 at the two parameters of a set-id, whose body sums to the ids and 10. -/
theorem setIdFrameTakesAnyIds : Obligations.SetIdFrameTakesAnyIds := by
  unfold Obligations.SetIdFrameTakesAnyIds
  intro oldId newId
  apply frame_eq_of_byteSum
  simp only [frameBody, byteSum_cons, byteSum_nil, BitVec.ofNat_eq_ofNat, BitVec.toNat_ofNat,
    List.length_cons, List.length_nil]
  omega

end Sys2Proof.Machine

namespace Sys2Proof

open Machine

/-- What R86 says of the bytes of an emitted frame: its length, its header, LEN and CHK, and its INSTR. -/
def wellFramed (bs : Frame) : Prop :=
  (bs.length = 6 ∨ bs.length = 8 ∨ bs.length = 9) ∧ hdrOk bs = true ∧ lenOk bs = true ∧ chkOk bs = true ∧
    (bs[4]? = some 0x01 ∨ bs[4]? = some 0x02 ∨ bs[4]? = some 0x03)

theorem wellFramed_encode {i : Instr} (hreq : i.isRequest = true) : wellFramed (encode i) := by
  cases i with
  | ping id => exact ⟨.inl rfl, rfl, rfl, chkOk_frame .., .inl rfl⟩
  | setId oldId newId => exact ⟨.inr (.inl rfl), rfl, rfl, chkOk_frame .., .inr (.inr rfl)⟩
  | move id raw => exact ⟨.inr (.inr rfl), rfl, rfl, chkOk_frame .., .inr (.inr rfl)⟩
  | getPosition id => exact ⟨.inr (.inl rfl), rfl, rfl, chkOk_frame .., .inr (.inl rfl)⟩
  | setSpeed id raw => exact ⟨.inr (.inr rfl), rfl, rfl, chkOk_frame .., .inr (.inr rfl)⟩
  | _ => cases hreq

/-- The rows are requests or replies or codes of R82, and no row is two of these. -/
theorem isReply_of_isRequest {i : Instr} (hreq : i.isRequest = true) : i.isReply = false := by
  cases i with
  | pingReply | positionReply => cases hreq
  | _ => rfl

/-- An emitted frame decodes to a valid request, which encodes to it, and every valid request does so. -/
theorem isEmitted_iff (bs : Frame) :
    isEmitted bs = true ↔ ∃ i : Instr, i.isRequest = true ∧ i.wf = true ∧ encode i = bs := by
  constructor
  · intro h
    unfold isEmitted at h
    split at h
    · rename_i i _
      simp only [Bool.and_eq_true, decide_eq_true_eq] at h
      obtain ⟨⟨hreq, hwf⟩, henc⟩ := h
      exact ⟨i, hreq, hwf, henc⟩
    · cases h
  · rintro ⟨i, hreq, hwf, rfl⟩
    simp [isEmitted, decodeRequest_encode hwf (isReply_of_isRequest hreq), hreq, hwf]

/-- Settles O7. The bytes of the frame are those of the request that it encodes. -/
theorem emittedFramesAreTheFiveRows : Obligations.EmittedFramesAreTheFiveRows := by
  unfold Obligations.EmittedFramesAreTheFiveRows
  refine fun bs => ⟨isEmitted_iff bs, fun h => ?_⟩
  obtain ⟨i, hreq, -, rfl⟩ := (isEmitted_iff bs).mp h
  exact wellFramed_encode hreq

end Sys2Proof
end

section
/-! PROOF. Family other, 41_parser.md: the generic decoder, the structural flags and the operands of a reply. -/

namespace Sys2Proof.Machine

/-! ## The generic decoder -/

/-- Five bytes by place, the last byte, and whatever stands between as parameters (41_parser.md R140). -/
theorem decodeFields_append (h0 h1 id lenf instr chk : Byte) (params : Frame) :
    decodeFields (h0 :: h1 :: id :: lenf :: instr :: (params ++ [chk])) = some ⟨id, lenf, instr, params, chk⟩ := by
  simp [decodeFields]

theorem commandByte_append (h0 h1 id lenf instr chk : Byte) (params : Frame) :
    commandByte (h0 :: h1 :: id :: lenf :: instr :: (params ++ [chk])) = some (params.headD instr) := by
  rw [commandByte, decodeFields_append]
  rfl

/-- With five bytes there is no last byte after INSTR, with fewer no INSTR (93 U14). -/
theorem decodeFields_of_short {bs : Frame} (h : bs.length < 6) : decodeFields bs = none := by
  match bs, h with
  | [], _ | [_], _ | [_, _], _ | [_, _, _], _ | [_, _, _, _], _ | [_, _, _, _, _], _ => rfl
  | _ :: _ :: _ :: _ :: _ :: _ :: _, h => exact absurd h (by simp)

/-- Settles O8. -/
theorem genericDecodeReadsEveryField : Obligations.GenericDecodeReadsEveryField := by
  unfold Obligations.GenericDecodeReadsEveryField
  refine ⟨fun h0 h1 id lenf instr chk params => ⟨decodeFields_append .., commandByte_append ..⟩, fun bs h => ?short⟩
  case short => exact ⟨decodeFields_of_short h, by rw [commandByte, decodeFields_of_short h]; rfl⟩

/-- R117 for any frame of R104: the id, INSTR and the command, which is the first parameter if there is one. -/
theorem decode_frame (id instr : Byte) (params : Frame) :
    (decodeFields (frame id instr params)).map (fun d => (d.id, d.instr)) = some (id, instr) ∧
      commandByte (frame id instr params) = some (params.headD instr) :=
  ⟨congrArg (Option.map _) (decodeFields_append ..), commandByte_append ..⟩

theorem eq_moveFrame_of_encodeMove {id : Byte} {raw : Int} {f : Frame} (h : encodeMove id raw = .ok f) :
    f = moveFrame id raw := by
  by_cases hv : validRaw raw = true
  · exact Except.ok.inj (h.symm.trans (encodeMove_of_validRaw id hv))
  · cases h.symm.trans (encodeMove_of_not_validRaw id hv)

theorem eq_setSpeedFrame_of_encodeSetSpeed {id : Byte} {raw : Int} {f : Frame} (h : encodeSetSpeed id raw = .ok f) :
    f = setSpeedFrame id raw := by
  by_cases hv : validRaw raw = true
  · exact Except.ok.inj (h.symm.trans (encodeSetSpeed_of_validRaw id hv))
  · cases h.symm.trans (encodeSetSpeed_of_not_validRaw id hv)

/-- Settles O9. Each encoder gives a frame of R104; a checked encoder gives one only for a valid raw value. -/
theorem genericDecodeRecoversIdAndCommand : Obligations.GenericDecodeRecoversIdAndCommand := by
  unfold Obligations.GenericDecodeRecoversIdAndCommand
  refine ⟨fun id => decode_frame id 0x01 [], fun id new => decode_frame id 0x03 [0x03, new], ?move,
    fun id => decode_frame id 0x02 [0x24, 0x02], ?speed⟩
  case move =>
    intro id raw f h
    obtain rfl := eq_moveFrame_of_encodeMove h
    exact decode_frame id 0x03 [0x1E, rawLo raw, rawHi raw]
  case speed =>
    intro id raw f h
    obtain rfl := eq_setSpeedFrame_of_encodeSetSpeed h
    exact decode_frame id 0x03 [0x20, rawLo raw, rawHi raw]

/-! ## The structural flags and the operands of a reply -/

theorem hdrOk_cons (h0 h1 : Byte) (bs : Frame) : hdrOk (h0 :: h1 :: bs) = true ↔ h0 = 0xFF ∧ h1 = 0xFF := by
  simp [hdrOk, sentinel]

theorem lenOk_cons (h0 h1 id lenf : Byte) (bs : Frame) :
    lenOk (h0 :: h1 :: id :: lenf :: bs) = true ↔ lenf.toNat = bs.length := by
  simp [lenOk]

/-- Settles O12. The flags look at bytes 0, 1 and 3 and at the number of bytes. -/
theorem structuralFlagsReadHeaderAndLength : Obligations.StructuralFlagsReadHeaderAndLength := by
  unfold Obligations.StructuralFlagsReadHeaderAndLength
  exact fun h0 h1 id lenf instr chk params => ⟨hdrOk_cons .., lenOk_cons ..⟩

theorem pingMatch_six (b0 b1 b2 b3 b4 b5 id : Byte) :
    pingMatch [b0, b1, b2, b3, b4, b5] id = some (decide (b2 = id)) := rfl

theorem le16_le (lo hi : Byte) : le16 lo hi ≤ 65535 := by
  have hlo := lo.isLt
  have hhi := hi.isLt
  rw [le16]
  omega

/-- Settles O13. -/
theorem replyOperandsStandAtFixedOffsets : Obligations.ReplyOperandsStandAtFixedOffsets := by
  unfold Obligations.ReplyOperandsStandAtFixedOffsets
  exact ⟨pingMatch_six, fun b0 b1 b2 b3 b4 b5 b6 b7 => ⟨rfl, le16_le b5 b6⟩⟩

end Sys2Proof.Machine
end

section
/-! PROOF. Family other: what a step runs, for each place where the block can stand. -/

namespace Sys2Proof.Machine

/-! ## An idle block -/

theorem step_of_preempts {s : State} (h : preempts s.inputs = true) : step s = hostStep s := by
  simp [step, fetch, h]

/-- An idle block gives every input but a row's command to the host's events. -/
theorem step_idle_input {s : State} {x : Input} {rest : List Input} (hs : s.seq = .seqIdle)
    (hin : s.inputs = x :: rest) (hx : ∀ i, x ≠ .command (.op i)) : step s = idleInput x (s.took rest) := by
  have hnone : fetchCommand s = none := by
    unfold fetchCommand
    split
    · rename_i i _ hin'
      cases hin.symm.trans hin'
      exact absurd rfl (hx i)
    · rfl
  have hhost : step s = hostStep s := by simp [step, fetch, hs, hnone]
  rw [hhost, hostStep_cons hin, if_pos hs]
  rfl

theorem opPhase_of_seqIdle {i : Instr} {start tx rx : State → Out} {s : State} (hs : s.seq = .seqIdle) :
    opPhase i start tx rx s = guarded s start := by
  rw [opPhase, hs]

/-- Every command of the host passes the guard (43_operations.md; log 8 for the encoders). -/
theorem step_hostCommand {s : State} {c : Command} {rest : List Input} (hs : s.seq = .seqIdle)
    (hc : c.isHost = true) (hin : s.inputs = .command c :: rest) :
    ∃ k, step s = guarded (s.took rest) k := by
  cases c with
  | op i =>
    have hstep : step s = exec i (s.took rest) := step_command hs hin
    cases i with
    | ping | setId | move | getPosition | setSpeed => exact ⟨_, hstep.trans (opPhase_of_seqIdle hs)⟩
    | _ => cases hc
  | scan lo hi =>
    exact ⟨fun u => if 256 < hi then .refused (.scanBound hi) else scanHead (u.beginScan lo hi),
      step_idle_input hs hin (by simp)⟩
  | _ => exact ⟨postFrame _, step_idle_input hs hin (by simp)⟩

theorem guarded_of_closed {s : State} (h : s.sessionOpen = false) (k : State → Out) :
    guarded s k = .refused .noSession := by
  simp [guarded, h]

theorem guarded_of_scanActive {s : State} (ho : s.sessionOpen = true) (h : s.scanActive = true) (k : State → Out) :
    guarded s k = .refused .busy := by
  simp [guarded, ho, h]

/-! ## The write of an operation in progress -/

/-- What follows the exact write (43_operations.md R201 to R205): a reply, or Done. -/
def afterWrite (i : Instr) : State → Out :=
  match i.replyLength with
  | some _ => toReply
  | none => finishOp .done

theorem isRequest_of_replyLength {i : Instr} {n : Nat} (h : i.replyLength = some n) : i.isRequest = true := by
  obtain ⟨id, rfl, -⟩ | ⟨id, rfl, -⟩ := replyLength_some h <;> rfl

theorem opPhase_of_seqTx {i : Instr} {start tx rx : State → Out} {s : State} (hs : s.seq = .seqTx)
    (hc : s.curOp = some i) : opPhase i start tx rx s = tx s := by
  simp [opPhase, hs, hc]

theorem exec_of_seqTx {i : Instr} {s : State} (hreq : i.isRequest = true) (hs : s.seq = .seqTx)
    (hc : s.curOp = some i) : exec i s = txPhase (afterWrite i) s := by
  cases i with
  | ping | setId | move | getPosition | setSpeed => exact opPhase_of_seqTx hs hc
  | _ => cases hreq

theorem fetchReply_of_not_reading {s : State} (h : ¬ (s.seq = .seqRx ∧ s.rstate = .reading)) :
    fetchReply s = none := by
  unfold fetchReply
  split
  · rw [if_neg h]
  · rfl

theorem step_of_seqTx {i : Instr} {s : State} (hreq : i.isRequest = true) (hs : s.seq = .seqTx)
    (hc : s.curOp = some i) (hp : preempts s.inputs = false) : step s = txPhase (afterWrite i) s := by
  rw [step_busy (by simp [hs]) hc (isReply_of_isRequest hreq) hp (fetchReply_of_not_reading (by simp [hs])),
    exec_of_seqTx hreq hs hc]

/-! ## The read of an operation in progress -/

/-- The reading operations differ only in the result they form of a reply (43_operations.md R201, R204). -/
theorem exec_of_seqRx {i : Instr} {n : Nat} {s : State} (hn : i.replyLength = some n) (hs : s.seq = .seqRx)
    (hc : s.curOp = some i) : ∃ finish, exec i s = rxPhase n finish s := by
  obtain ⟨id, rfl, rfl⟩ | ⟨id, rfl, rfl⟩ := replyLength_some hn
  · exact ⟨_, opPhase_of_seqRx hs hc⟩
  · exact ⟨_, opPhase_of_seqRx hs hc⟩

section
variable {i : Instr} {n : Nat} {s : State} (hn : i.replyLength = some n) (hs : s.seq = .seqRx)
  (hc : s.curOp = some i)
include hn hs hc

theorem exec_of_rstate_idle (hr : s.rstate = .idle) : exec i s = .next (s.invokeRead n) := by
  obtain ⟨finish, h⟩ := exec_of_seqRx hn hs hc
  rw [h, rxPhase, hr]

theorem exec_of_reading (hr : s.rstate = .reading) : exec i s = readStep s := by
  obtain ⟨finish, h⟩ := exec_of_seqRx hn hs hc
  rw [h, rxPhase, hr]

theorem exec_of_failed {e : ErrorKind} (hr : s.rstate = .failed) (he : s.rerr = some e) : exec i s = raise e s := by
  obtain ⟨finish, h⟩ := exec_of_seqRx hn hs hc
  rw [h, rxPhase, hr, he]
  rfl

/-- Under Verify the flag decides before a result is formed (41_parser.md R152). -/
theorem exec_of_bad_checksum {bs : Frame} (hr : s.rstate = .success) (hb : s.rxbuf = some bs)
    (hv : s.cfgReplyCheck = some .verify) (hk : s.pChkOk = some false) :
    exec i s = raise .replyChecksumMismatch s := by
  obtain ⟨finish, h⟩ := exec_of_seqRx hn hs hc
  rw [h, rxPhase, hr, hb, need_some, applyReplyCheck, hv, hk]
  rfl

theorem step_of_seqRx (hr : s.rstate ≠ .reading) (hp : preempts s.inputs = false) : step s = exec i s :=
  step_busy (by simp [hs]) hc (isReply_of_isRequest (isRequest_of_replyLength hn)) hp
    (fetchReply_of_not_reading (by simp [hr]))

theorem step_of_polling (hr : s.rstate = .polling) (hp : preempts s.inputs = false) : step s = pollStep s :=
  (step_of_seqRx hn hs hc (by simp [hr]) hp).trans (exec_of_polling hn hs hr hc)

end

/-- An answer that stands next is taken; whether it is of the request's kind is the caller's to say. -/
theorem awaitAnswer_of_answer {q : Request} {s : State} {a : Answer} {rest : List Input}
    (hin : s.inputs = .answer a :: rest) (k : Answer → State → Out) : awaitAnswer q s k = k a (s.took rest) := by
  rw [awaitAnswer, hin]
  rfl

/-- RXN is read twice in Reading, before the request and with its answer, and is the same both times. -/
theorem readStep_of_answer {s : State} {a : ReadAnswer} {rest : List Input}
    (hin : s.inputs = .answer (.read a) :: rest) : readStep s = readAnswer a (s.took rest) := by
  cases hn : s.rxn with
  | none => simp [readStep, readAnswer, need, hn]
  | some n => rw [readStep, hn, need_some, awaitAnswer_of_answer hin]

/-- Whatever bytes arrive in Reading, the step is the controller's: a reply row is the answer to TxRead (log 17). -/
theorem step_of_reading {i : Instr} {n : Nat} {s : State} (hn : i.replyLength = some n) (hs : s.seq = .seqRx)
    (hc : s.curOp = some i) (hr : s.rstate = .reading) (hp : preempts s.inputs = false) : step s = readStep s := by
  have hbusy : fetchReply s = none → step s = readStep s := fun hf =>
    (step_busy (by simp [hs]) hc (isReply_of_isRequest (isRequest_of_replyLength hn)) hp hf).trans
      (exec_of_reading hn hs hc hr)
  cases hf : fetchReply s with
  | none => exact hbusy hf
  | some q =>
    unfold fetchReply at hf
    split at hf
    · rename_i bs rest hin
      cases hd : decodeReply bs with
      | error e => simp [hd, Except.toOption] at hf
      | ok j =>
        rw [readStep_of_answer hin, step_reply hs hr hin hd, (decodeReply_ok hd).2.2]
        exact if_pos ⟨hs, hr⟩
    · cases hf

/-! ## The completion of ping and get_position -/

/-- The reply check lets the result through (41_parser.md R152). -/
def State.replyAccepted (s : State) : Prop :=
  s.cfgReplyCheck = some .trust ∨ s.cfgReplyCheck = some .verify ∧ s.pChkOk = some true

theorem applyReplyCheck_of_accepted {s : State} (h : s.replyAccepted) (k : State → Out) :
    applyReplyCheck k s = k s := by
  obtain ht | ⟨hv, hk⟩ := h
  · rw [applyReplyCheck, ht]
    rfl
  · rw [applyReplyCheck, hv, hk]
    rfl

theorem rxPhase_of_accepted {n : Nat} {finish : Frame → State → Out} {bs : Frame} {s : State}
    (hr : s.rstate = .success) (hb : s.rxbuf = some bs) (ha : s.replyAccepted) :
    rxPhase n finish s = finish bs s := by
  rw [rxPhase, hr, hb, need_some, applyReplyCheck_of_accepted ha]

/-- PingMatch on any six bytes looks at byte 2 alone (41_parser.md R145). -/
theorem pingMatch_of_length {bs : Frame} (h : bs.length = 6) (id : Byte) :
    pingMatch bs id = some (decide (bs[2]? = some id)) := by
  match bs, h with
  | [b0, b1, b2, b3, b4, b5], _ =>
    simp [pingMatch, beq_eq_decide]

theorem position_of_length {bs : Frame} (h : bs.length = 8) : ∃ v, position bs = some v := by
  match bs, h with
  | [b0, b1, b2, b3, b4, b5, b6, b7], _ => exact ⟨_, rfl⟩

theorem exec_ping_of_success {id : Byte} {bs : Frame} {s : State} (hs : s.seq = .seqRx) (hr : s.rstate = .success)
    (hc : s.curOp = some (.ping id)) (hb : s.rxbuf = some bs) (hlen : bs.length = 6) (ha : s.replyAccepted) :
    exec (.ping id) s = finishPing (decide (bs[2]? = some id)) s := by
  rw [exec, execPing, opPhase_of_seqRx hs hc, rxPhase_of_accepted hr hb ha, pingMatch_of_length hlen]

theorem exec_getPosition_of_success {id : Byte} {bs : Frame} {v : Nat} {s : State} (hs : s.seq = .seqRx)
    (hr : s.rstate = .success) (hc : s.curOp = some (.getPosition id)) (hb : s.rxbuf = some bs)
    (hv : position bs = some v) (ha : s.replyAccepted) :
    exec (.getPosition id) s = .next (s.endOperation.post (.position v)) := by
  rw [exec, execGetPosition, opPhase_of_seqRx hs hc, rxPhase_of_accepted hr hb ha, hv]
  rfl

end Sys2Proof.Machine
end

section
/-! PROOF. Family other, 10_state.md and 70_reset_and_hazards.md: reset, session and the guard. -/

namespace Sys2Proof.Machine

/-- Settles O14. -/
theorem resetHoldsTheResetTable : Obligations.ResetHoldsTheResetTable := by
  unfold Obligations.ResetHoldsTheResetTable
  decide

/-- The reset table with any inputs meets the invariant: no session has started, nothing is in progress (R40). -/
theorem Inv.resetBlock (s : State) : Inv s.resetBlock where
  config := .inl ⟨rfl, rfl, rfl, rfl, rfl, rfl, rfl⟩
  sequence := ⟨rfl, rfl, rfl, rfl, rfl, rfl, rfl, rfl, rfl, rfl, rfl⟩
  scan := ⟨rfl, rfl, rfl⟩

/-- Settles O15. -/
theorem invariantHoldsAtReset : Obligations.InvariantHoldsAtReset := by
  unfold Obligations.InvariantHoldsAtReset
  exact ⟨Inv.resetBlock State.reset, rfl⟩

theorem startSession_missing {q : SessionParams} {s : State} (ho : s.sessionOpen = false) (hs : s.seq = .seqIdle)
    (ha : s.scanActive = false)
    (h : q.maxRetries = none ∨ q.pollTimeout = none ∨ q.timeoutPolicy = none ∨ q.replyCheck = none) :
    startSession q s = .refused .missingConfig := by
  unfold startSession
  split
  · simp_all
  · split
    · simp_all
    · split
      · simp_all
      · rfl

/-- Settles O18. A session start is an event of the idle block, and its checks come in the order of the clauses. -/
theorem sessionStartWritesTheConfiguration : Obligations.SessionStartWritesTheConfiguration := by
  unfold Obligations.SessionStartWritesTheConfiguration
  intro s rest q hin hs ha
  have hstep : step s = startSession q (s.took rest) := step_idle_input hs hin (by simp)
  rw [hstep]
  refine ⟨?given, fun ho hq => startSession_missing ho hs ha hq, fun ho => ?second⟩
  case given =>
    rintro m tm p c ho rfl
    refine ⟨fun hm htm => startSession_next.mpr ⟨ho, hs, ha, m, tm, p, c, rfl, hm, htm, rfl⟩, fun hzero => ?_⟩
    have hlegal : ¬ (1 ≤ m ∧ 1 ≤ tm) := by omega
    simp [startSession, ho, hs, ha, hlegal]
  case second => simp [startSession, ho]

/-- Reset and close come before anything else, in a busy block as in an idle one (R270, R255). -/
theorem step_reset {s : State} {rest : List Input} (hin : s.inputs = .reset :: rest) :
    step s = .next (s.took rest).resetBlock := by
  rw [step_of_preempts (by rw [hin]; rfl), hostStep_cons hin]
  split <;> rfl

theorem step_close {s : State} {rest : List Input} (hin : s.inputs = .closeSession :: rest) :
    step s = closeSession (s.took rest) := by
  rw [step_of_preempts (by rw [hin]; rfl), hostStep_cons hin]
  split <;> rfl

/-- Settles O19. -/
theorem resetAndCloseActInEveryState : Obligations.ResetAndCloseActInEveryState := by
  unfold Obligations.ResetAndCloseActInEveryState
  refine ⟨fun s rest hin => step_reset hin, fun s rest hin => ⟨fun ho => ?opened, fun ho => ?closed⟩⟩
  case opened => exact (step_close hin).trans (if_pos ho)
  case closed =>
    rw [step_close hin, closeSession, State.took_sessionOpen, ho]
    rfl

/-- The configuration registers and SESSION_OPEN (10_state.md R20 to R25). -/
def State.session (s : State) :
    Option Nat × Option Nat × Option TimeoutPolicy × Option ReplyCheck × Bool :=
  (s.cfgMaxRetries, s.cfgPollTimeout, s.cfgTimeoutPolicy, s.cfgReplyCheck, s.sessionOpen)

/-- The registers of a scan (10_state.md R36). -/
def State.scanRegs (s : State) : Bool × Option Nat × Option Nat × Option (List Byte) :=
  (s.scanActive, s.scanNext, s.scanHi, s.scanFound)

/-- What stands beside the read controller: it writes none of these (42_poll_controller.md R177). -/
def State.besideRead (s : State) :=
  (s.session, s.scanRegs, s.seq, s.curOp, s.txbuf)

theorem raise_session {e : ErrorKind} {s t : State} (h : raise e s = .next t) : t.session = s.session := by
  obtain ⟨-, rfl⟩ | ⟨n, -, -, rfl⟩ := raise_next.mp h <;> rfl

theorem scanHead_session {s t : State} (h : scanHead s = .next t) : t.session = s.session := by
  obtain ⟨n, hi, -, -, ⟨-, rfl⟩ | ⟨-, rfl⟩⟩ := scanHead_next.mp h <;> rfl

theorem finishPing_session {b : Bool} {s t : State} (h : finishPing b s = .next t) : t.session = s.session := by
  obtain ⟨-, rfl⟩ | ⟨-, h⟩ := finishPing_next.mp h
  · rfl
  · obtain ⟨n, -, ⟨-, f, -, rfl⟩ | ⟨-, rfl⟩⟩ := scanItem_next.mp h <;> rfl

theorem pollAnswer_besideRead {m : Nat} {a : PollAnswer} {s t : State} (h : pollAnswer m a s = .next t) :
    t.besideRead = s.besideRead := by
  obtain ⟨-, rfl⟩ | ⟨-, rfl⟩ | ⟨-, -, -, rfl⟩ | ⟨-, -, rfl⟩ := pollAnswer_next.mp h <;> rfl

theorem readAnswer_besideRead {a : ReadAnswer} {s t : State} (h : readAnswer a s = .next t) :
    t.besideRead = s.besideRead := by
  obtain ⟨n, -, ⟨bs, -, -, rfl⟩ | ⟨-, rfl⟩⟩ := readAnswer_next.mp h <;> rfl

/-- Only reset, close and session start write the session's registers (R20; 43_operations.md R207). -/
theorem Transition.session_cases {s t : State} (h : Transition s t) :
    (∃ rest, s.inputs = .reset :: rest ∧ t = (s.took rest).resetBlock) ∨
    (∃ rest, s.inputs = .closeSession :: rest ∧ t = { s.took rest with sessionOpen := false }) ∨
    (∃ rest p m tm pol c, s.inputs = .startSession p :: rest ∧ s.seq = .seqIdle ∧ 1 ≤ m ∧ 1 ≤ tm ∧
      t = (s.took rest).openSession m tm pol c) ∨
    t.session = s.session := by
  cases h with
  | reset hin => exact .inl ⟨_, hin, rfl⟩
  | close hin => exact .inr (.inl ⟨_, hin, rfl⟩)
  | encoded | scanGiveUp | begin | written | writeDone | invoke | located => exact .inr (.inr (.inr rfl))
  | scanBegin _ _ _ h => exact .inr (.inr (.inr (scanHead_session h :)))
  | scanGoOn _ _ _ h => exact .inr (.inr (.inr (scanHead_session h :)))
  | rejected _ _ _ _ h => exact .inr (.inr (.inr (raise_session h :)))
  | writeFailed _ _ _ _ _ h => exact .inr (.inr (.inr (raise_session h :)))
  | badChecksum _ _ _ _ _ h => exact .inr (.inr (.inr (raise_session h)))
  | readFailed _ _ _ _ h => exact .inr (.inr (.inr (raise_session h)))
  | pinged _ _ _ _ _ _ h => exact .inr (.inr (.inr (finishPing_session h)))
  | polled _ _ _ _ _ _ _ h => exact .inr (.inr (.inr (congrArg Prod.fst (pollAnswer_besideRead h :))))
  | read _ _ _ h => exact .inr (.inr (.inr (congrArg Prod.fst (readAnswer_besideRead h :))))
  -- The case left is a session start.
  | _ =>
    rename_i hin _ hs _ hm htm
    exact .inr (.inr (.inl ⟨_, _, _, _, _, _, hin, hs, hm, htm, rfl⟩))

/-- A step that is no reset, close or session start keeps the session's registers. -/
theorem Transition.session_eq {s t : State} (h : Transition s t) (hp : preempts s.inputs = false)
    (hq : ∀ q rest, s.inputs ≠ .startSession q :: rest) : t.session = s.session := by
  obtain ⟨rest, hin, -⟩ | ⟨rest, hin, -⟩ | ⟨rest, p, -, -, -, -, hin, -⟩ | h := h.session_cases
  · simp [hin, preempts] at hp
  · simp [hin, preempts] at hp
  · exact absurd hin (hq p rest)
  · exact h

/-- Settles O20. -/
theorem operationsLeaveTheSessionAlone : Obligations.OperationsLeaveTheSessionAlone := by
  unfold Obligations.OperationsLeaveTheSessionAlone
  intro s t hstep hp hq
  simpa [State.session] using (step_transition hstep).session_eq hp hq


/-- Settles O21. -/
theorem noCommandOutsideASession : Obligations.NoCommandOutsideASession := by
  unfold Obligations.NoCommandOutsideASession
  intro s c rest ho hs hc hin
  obtain ⟨k, hk⟩ := step_hostCommand hs hc hin
  rw [hk]
  exact guarded_of_closed (s := s.took rest) ho k

end Sys2Proof.Machine
end

section
/-! PROOF. Family other, 43_operations.md: the steps of an operation, one by one. -/

namespace Sys2Proof.Machine

/-! ## Acceptance -/

/-- A valid request is encoded and starts to transmit (43_operations.md section 1). -/
theorem exec_of_admits {i : Instr} {s : State} (hreq : i.isRequest = true) (hwf : i.wf = true) (ha : s.admits) :
    exec i s = .next (s.transmit i (encode i)) := by
  cases i with
  | ping | setId | getPosition => exact opPhase_of_admits ha
  | move id raw => rw [exec, execMove, opPhase_of_admits ha, encodeMove_of_validRaw id hwf, startChecked]; rfl
  | setSpeed id raw =>
    rw [exec, execSetSpeed, opPhase_of_admits ha, encodeSetSpeed_of_validRaw id hwf, startChecked]; rfl
  | _ => cases hreq

/-- Settles O23. -/
theorem requestsStartTransmitting : Obligations.RequestsStartTransmitting := by
  unfold Obligations.RequestsStartTransmitting
  exact fun i s => exec_of_admits

/-- Settles O25. Each encoder command posts its frame behind the guard (log 8). -/
theorem encoderCommandsWriteOnlyTheResult : Obligations.EncoderCommandsWriteOnlyTheResult := by
  unfold Obligations.EncoderCommandsWriteOnlyTheResult
  intro s rest c f ha hin hc
  have posts : ∀ r, r = .ok f → idleInput (.command c) (s.took rest) = guarded (s.took rest) (postFrame r) →
      (∀ i, c ≠ .op i) → step s = .next ((s.took rest).post (.frame f)) := by
    rintro r rfl hcmd hop
    have ⟨_, hs, _⟩ := ha
    rw [step_idle_input hs hin (by simpa using hop), hcmd, guarded_of_admits (admits_took.mpr ha)]
    rfl
  obtain ⟨id, rfl, rfl⟩ | ⟨a, b, rfl, rfl⟩ | ⟨id, raw, rfl, hf⟩ | ⟨id, rfl, rfl⟩ | ⟨id, raw, rfl, hf⟩ := hc
  · exact posts _ rfl rfl (by simp)
  · exact posts _ rfl rfl (by simp)
  · exact posts _ hf rfl (by simp)
  · exact posts _ rfl rfl (by simp)
  · exact posts _ hf rfl (by simp)

/-! ## The write -/

/-- Settles O26. -/
theorem writeOnlyOperationsAnswerDone : Obligations.WriteOnlyOperationsAnswerDone := by
  unfold Obligations.WriteOnlyOperationsAnswerDone
  intro i s f rest hreq hn hs hc hf hin
  rw [exec_of_seqTx hreq hs hc, afterWrite, hn]
  exact txPhase_next.mpr ⟨f, _, rest, hf, hin, .inl ⟨rfl, rfl⟩⟩

/-- Settles O27. -/
theorem readingOperationsInvokeTheRead : Obligations.ReadingOperationsInvokeTheRead := by
  unfold Obligations.ReadingOperationsInvokeTheRead
  intro i n s f rest hn hc
  refine ⟨fun hs hf hin => ?written, fun hs hr => exec_of_rstate_idle hn hs hc hr⟩
  case written =>
    rw [exec_of_seqTx (isRequest_of_replyLength hn) hs hc, afterWrite, hn]
    exact txPhase_next.mpr ⟨f, _, rest, hf, hin, .inl ⟨rfl, rfl⟩⟩

/-- Any answer but the exact count raises the error, after the request is issued (R200, decision D10). -/
theorem exec_of_failed_write {i : Instr} {s t : State} {f : Frame} {a : WriteAnswer} {rest : List Input}
    (hreq : i.isRequest = true) (hs : s.seq = .seqTx) (hc : s.curOp = some i) (hf : s.txbuf = some f)
    (hin : s.inputs = .answer (.write a) :: rest) (ha : a ≠ .writeOk f.length)
    (hraise : raise .transportWriteFailed ((s.took rest).issue (.txWrite f)) = .next t) : exec i s = .next t := by
  rw [exec_of_seqTx hreq hs hc]
  exact txPhase_next.mpr ⟨f, a, rest, hf, hin, .inr ⟨ha, hraise⟩⟩

/-- Settles O28. -/
theorem anyOtherWriteAnswerFailsTheOperation : Obligations.AnyOtherWriteAnswerFailsTheOperation := by
  unfold Obligations.AnyOtherWriteAnswerFailsTheOperation
  intro i s f a rest hreq hs hc hf hscan hin ha
  exact exec_of_failed_write hreq hs hc hf hin ha (raise_of_scanActive_false _ hscan)

/-! ## The read -/

/-- Settles O30. The attempt is counted before its answer is looked at, so the budget is compared after. -/
theorem pollAnswersFollowThePolicy : Obligations.PollAnswersFollowThePolicy := by
  unfold Obligations.PollAnswersFollowThePolicy
  rintro i n m tm p a s s1 rest hn hs hr hc hm htm hp hlt hin rfl
  have polls : ∀ t, pollAnswer m a ((s.took rest).countPoll tm) = .next t → exec i s = .next t := fun t h =>
    (exec_of_polling hn hs hr hc).trans (pollStep_next.mpr ⟨m, tm, a, rest, hm, htm, hlt, hin, h⟩)
  refine ⟨?ready, ?retry, ?exhausted⟩
  case ready =>
    rintro rfl
    exact polls _ (pollAnswer_next.mpr (.inr (.inl ⟨rfl, rfl⟩)))
  case retry =>
    rintro rfl rfl hleft
    exact polls _ (pollAnswer_next.mpr (.inr (.inr (.inl ⟨rfl, hp, hleft, rfl⟩))))
  case exhausted =>
    rintro rfl hend
    refine polls _ (pollAnswer_next.mpr (.inr (.inr (.inr ⟨rfl, ?_, rfl⟩))))
    cases p with
    | abortOnTimeout => exact .inl hp
    | retryOnTimeout =>
      have hspent : s.attempt + 1 = m := hend.resolve_left (by simp)
      exact .inr ⟨hp, by simp [hspent]⟩

/-- Settles O31. -/
theorem replyRowsFillTheReplyRegister : Obligations.ReplyRowsFillTheReplyRegister := by
  unfold Obligations.ReplyRowsFillTheReplyRegister
  intro i s hi hs hr hn
  rw [exec_reply hi]
  exact receiveReply_next.mpr ⟨hs, hr, readAnswer_next.mpr ⟨_, hn, .inl ⟨_, rfl, rfl, rfl⟩⟩⟩

/-- Settles O32. -/
theorem replyRowsNeedTheirRead : Obligations.ReplyRowsNeedTheirRead := by
  unfold Obligations.ReplyRowsNeedTheirRead
  intro i s hi
  rw [exec_reply hi]
  refine ⟨fun n hs hr hn hlen => ?wrong, fun h => if_neg h⟩
  case wrong =>
    have hne : ∀ bs, ReadAnswer.readOk (encode i) = .readOk bs → bs.length ≠ n := by
      rintro bs ⟨⟩
      exact hlen
    exact receiveReply_next.mpr ⟨hs, hr, readAnswer_next.mpr ⟨n, hn, .inr ⟨hne, rfl⟩⟩⟩

/-- Settles O33. -/
theorem anyOtherReadAnswerFailsTheRead : Obligations.AnyOtherReadAnswerFailsTheRead := by
  unfold Obligations.AnyOtherReadAnswerFailsTheRead
  intro i n s a rest hn hs hr hc hrxn hin hne
  rw [step_of_reading hn hs hc hr (by rw [hin]; rfl), readStep_of_answer hin]
  exact readAnswer_next.mpr ⟨n, hrxn, .inr ⟨hne, rfl⟩⟩

/-! ## The result -/

theorem finishPing_of_scanActive_false (b : Bool) {s : State} (h : s.scanActive = false) :
    finishPing b s = .next (s.endOperation.post (.bool b)) :=
  finishPing_next.mpr (.inl ⟨h, rfl⟩)

/-- Byte 2 of a ping reply as PingMatch names it. -/
theorem getElem?_two_eq_some {b0 b1 b2 id : Byte} {bs : Frame} :
    (b0 :: b1 :: b2 :: bs)[2]? = some id ↔ b2 = id := by
  simp

/-- Settles O35. -/
theorem pingAnswersWhetherTheIdMatches : Obligations.PingAnswersWhetherTheIdMatches := by
  unfold Obligations.PingAnswersWhetherTheIdMatches
  intro id b0 b1 b2 b3 b4 b5 s hs hr hc hb hscan ha
  rw [exec_ping_of_success hs hr hc hb rfl ha, finishPing_of_scanActive_false _ hscan]
  simp only [getElem?_two_eq_some]
  rfl

/-- Settles O36. -/
theorem getPositionAnswersTheUnsignedValue : Obligations.GetPositionAnswersTheUnsignedValue := by
  unfold Obligations.GetPositionAnswersTheUnsignedValue
  intro id b0 b1 b2 b3 b4 b5 b6 b7 s hs hr hc hb ha
  exact exec_getPosition_of_success hs hr hc hb rfl ha

/-- Settles O37. -/
theorem badChecksumUnderVerifyIsAnError : Obligations.BadChecksumUnderVerifyIsAnError := by
  unfold Obligations.BadChecksumUnderVerifyIsAnError
  intro i n bs s hn hs hr hc hb hscan hv hk
  exact (exec_of_bad_checksum hn hs hc hr hb hv hk).trans (raise_of_scanActive_false _ hscan)

/-- Settles O38. -/
theorem failedReadEndsWithItsReason : Obligations.FailedReadEndsWithItsReason := by
  unfold Obligations.FailedReadEndsWithItsReason
  intro i n e s hn hs hr hc he hscan
  exact (exec_of_failed hn hs hc hr he).trans (raise_of_scanActive_false _ hscan)

/-- Settles O41. The six meanings are refusals whatever the state (30_encoding.md R82). -/
theorem neverEmittedCodesAreRefused : Obligations.NeverEmittedCodesAreRefused := by
  unfold Obligations.NeverEmittedCodesAreRefused
  exact fun id len rest s => ⟨rfl, rfl, rfl, rfl, rfl, rfl⟩

end Sys2Proof.Machine
end

section
/-! PROOF. Family other, 43_operations.md section 2: the steps of a scan. -/

namespace Sys2Proof.Machine

/-- Settles O43. The scan's registers take their first values, and the loop test comes at once (log 9). -/
theorem scanStartsWithItsFirstPing : Obligations.ScanStartsWithItsFirstPing := by
  unfold Obligations.ScanStartsWithItsFirstPing
  intro lo hi s rest ha hin
  have ⟨_, hs, _⟩ := ha
  have hstep : step s = execScan lo hi (s.took rest) := step_idle_input hs hin (by simp)
  rw [hstep]
  refine ⟨fun hbound => ?bound, fun hbound hempty => ?empty, fun hbound hlt => ?first⟩
  case bound => rw [execScan, guarded_of_admits (admits_took.mpr ha), if_pos hbound]
  case empty =>
    exact execScan_next.mpr ⟨ha, hbound, scanHead_next.mpr ⟨lo, hi, rfl, rfl, .inr ⟨Nat.not_lt.mpr hempty, rfl⟩⟩⟩
  case first => exact execScan_next.mpr ⟨ha, hbound, scanHead_next.mpr ⟨lo, hi, rfl, rfl, .inl ⟨hlt, rfl⟩⟩⟩

/-- Settles O44. A found id reads SCAN_FOUND to join it, an absent one does not read it. -/
theorem scanPostsOneItemPerPing : Obligations.ScanPostsOneItemPerPing := by
  unfold Obligations.ScanPostsOneItemPerPing
  rintro id b0 b1 b2 b3 b4 b5 n f s hs hr hc hb ha hscan hn hf hfound rfl
  rw [exec_ping_of_success hs hr hc hb rfl ha]
  simp only [getElem?_two_eq_some]
  refine finishPing_next.mpr (.inr ⟨hscan, scanItem_next.mpr ⟨n, hn, ?_⟩⟩)
  by_cases hid : b2 = scanId n
  · obtain ⟨found, rfl⟩ := Option.ne_none_iff_exists'.mp (hfound hid)
    exact .inl ⟨decide_eq_true hid, found, hf, by simp only [if_pos (show b2 = BitVec.ofNat 8 n from hid)]; rfl⟩
  · exact .inr ⟨decide_eq_false hid, by simp only [if_neg (show ¬ b2 = BitVec.ofNat 8 n from hid), hf]; rfl⟩

/-- Settles O45. Each of the three failures is error entry with SCAN_ACTIVE true. -/
theorem scanEndsAtItsFirstError : Obligations.ScanEndsAtItsFirstError := by
  unfold Obligations.ScanEndsAtItsFirstError
  rintro id n e s s1 u hc hscan hn rfl
  refine ⟨?read, ?write, ?checksum⟩
  case read =>
    rintro hs hr he rfl
    exact (exec_of_failed rfl hs hc hr he).trans (raise_of_scanActive_true e hscan hn)
  case write =>
    rintro f a rest hs hf hin ha rfl rfl
    exact exec_of_failed_write rfl hs hc hf hin ha (raise_of_scanActive_true _ hscan hn)
  case checksum =>
    rintro bs hs hr hb hv hk rfl rfl
    exact (exec_of_bad_checksum rfl hs hc hr hb hv hk).trans (raise_of_scanActive_true _ hscan hn)

theorem step_scanContinue {s : State} {rest : List Input} (hs : s.seq = .seqIdle) (ha : s.scanActive = true)
    (hin : s.inputs = .scanContinue :: rest) : step s = scanHead (s.took rest) :=
  (step_idle_input hs hin (by simp)).trans (if_pos ha)

theorem step_scanAbandon {s : State} {rest : List Input} (hs : s.seq = .seqIdle) (ha : s.scanActive = true)
    (hin : s.inputs = .scanAbandon :: rest) : step s = .next ((s.took rest).endScan.post .abandoned) :=
  (step_idle_input hs hin (by simp)).trans (if_pos ha)

/-- Settles O46. Neither choice reads SESSION_OPEN (log 20). -/
theorem hostGoesOnOrAbandonsBetweenItems : Obligations.HostGoesOnOrAbandonsBetweenItems := by
  unfold Obligations.HostGoesOnOrAbandonsBetweenItems
  intro n hi s rest hs ha hn hhi
  refine ⟨step_scanAbandon hs ha, fun hin hlt => ?goOn, fun hin hle => ?complete⟩
  case goOn =>
    exact (step_scanContinue hs ha hin).trans (scanHead_next.mpr ⟨n, hi, hn, hhi, .inl ⟨hlt, rfl⟩⟩)
  case complete =>
    exact (step_scanContinue hs ha hin).trans (scanHead_next.mpr ⟨n, hi, hn, hhi, .inr ⟨Nat.not_lt.mpr hle, rfl⟩⟩)

end Sys2Proof.Machine
end

section
/-! PROOF. Family other, 10_state.md sections 3 and 7: the row a step takes, and a placed table word (log 16). -/

namespace Sys2Proof

theorem isReply_of_decodePingTail {id len : Byte} {rest : Frame} {i : Instr} (h : decodePingTail id len rest = .ok i) :
    i.isReply = false := by
  unfold decodePingTail at h
  repeat' split at h
  all_goals cases h
  rfl

theorem isReply_of_decodeReadTail {id len : Byte} {rest : Frame} {i : Instr} (h : decodeReadTail id len rest = .ok i) :
    i.isReply = false := by
  unfold decodeReadTail at h
  repeat' split at h
  all_goals cases h
  rfl

theorem isReply_of_decodeWriteTail {id len : Byte} {rest : Frame} {i : Instr}
    (h : decodeWriteTail id len rest = .ok i) : i.isReply = false := by
  unfold decodeWriteTail at h
  repeat' split at h
  all_goals cases h
  all_goals rfl

theorem isReply_of_decodeBody {id len code : Byte} {rest : Frame} {i : Instr}
    (h : decodeBody id len code rest = .ok i) : i.isReply = false := by
  unfold decodeBody at h
  repeat' split at h
  · exact isReply_of_decodePingTail h
  · exact isReply_of_decodeReadTail h
  · exact isReply_of_decodeWriteTail h
  -- The six codes of R82, and an INSTR of no row.
  all_goals cases h
  all_goals rfl

/-- The request decoder names no reply row, so a word is one by the reply decoder alone (30_encoding.md R81). -/
theorem isReply_of_decodeRequest {bs : Frame} {i : Instr} (h : decodeRequest bs = .ok i) : i.isReply = false := by
  unfold decodeRequest at h
  repeat' split at h
  · exact isReply_of_decodeBody h
  · cases h
  · cases h

end Sys2Proof

namespace Sys2Proof.Machine

/-- A word of a reply row is the bytes of that row. -/
theorem decodeReply_of_decodeTableWord {nbits w : Nat} {i : Instr} (h : decodeTableWord nbits w = some i)
    (hi : i.isReply = true) : decodeReply (tableBytes (nbits / 8) w) = .ok i := by
  unfold decodeTableWord decode at h
  cases hreq : decodeRequest (tableBytes (nbits / 8) w) with
  | ok j =>
    obtain rfl : j = i := by simpa [hreq, Except.toOption] using h
    simp [isReply_of_decodeRequest hreq] at hi
  | error e =>
    cases hrep : decodeReply (tableBytes (nbits / 8) w) with
    | ok j =>
      obtain rfl : j = i := by simpa [hreq, hrep, Except.toOption] using h
      rfl
    | error e => simp [hreq, hrep, Except.toOption] at h

theorem State.readied_admits (s : State) : s.readied.admits := by
  unfold State.readied
  split
  · assumption
  · exact ⟨rfl, rfl, rfl⟩

theorem State.readingFor_reading (bs : Frame) (s : State) :
    (s.readingFor bs).seq = .seqRx ∧ (s.readingFor bs).rstate = .reading ∧ (s.readingFor bs).rxn = some bs.length := by
  unfold State.readingFor
  split
  · assumption
  · exact ⟨rfl, rfl, rfl⟩

/-- A word of a request or of a code that is never emitted is placed as a command. -/
theorem step_withCommand (i : Instr) (s : State) :
    step (s.withCommand i) = exec i (s.readied.took s.inputs) := by
  have ⟨_, hs, _⟩ := s.readied_admits
  exact step_command hs rfl

/-- A word of a reply row is placed as the answer to a read of its length. -/
theorem step_withReply {bs : Frame} {i : Instr} (hd : decodeReply bs = .ok i) (s : State) :
    step (s.withReply bs) = exec i ((s.readingFor bs).took s.inputs) := by
  have ⟨hs, hr, _⟩ := s.readingFor_reading bs
  exact step_reply hs hr rfl hd

theorem State.withFetchWord_of_reply {nbits w : Nat} {i : Instr} (h : decodeTableWord nbits w = some i)
    (hi : i.isReply = true) (s : State) : s.withFetchWord nbits w = s.withReply (tableBytes (nbits / 8) w) := by
  simp [State.withFetchWord, placeWord, h, hi]

theorem State.withFetchWord_of_sent {nbits w : Nat} {i : Instr} (h : decodeTableWord nbits w = some i)
    (hi : i.isReply = false) (s : State) : s.withFetchWord nbits w = s.withCommand i := by
  simp [State.withFetchWord, placeWord, h, hi]

/-- Settles O42. The three ways a step runs a row, and the two ways a word is placed. -/
theorem stepRunsTheRowItTakes : Obligations.StepRunsTheRowItTakes := by
  unfold Obligations.StepRunsTheRowItTakes
  refine ⟨fun s i rest => step_command, fun s i bs rest => step_reply, fun s i => step_busy, ?word⟩
  case word =>
    intro s nbits w i h
    cases hi : i.isReply with
    | true =>
      have hd := decodeReply_of_decodeTableWord h hi
      obtain ⟨-, henc, -⟩ := decodeReply_ok hd
      rw [State.withFetchWord_of_reply h hi, henc]
      exact ⟨(s.readingFor _).took s.inputs, rfl, nofun, fun _ => s.readingFor_reading _, step_withReply hd s⟩
    | false =>
      rw [State.withFetchWord_of_sent h hi]
      exact ⟨s.readied.took s.inputs, rfl, fun _ => s.readied_admits, nofun, step_withCommand i s⟩

end Sys2Proof.Machine
end

section
/-! PROOF. Family other, 10_state.md: every step keeps the invariant of the block. -/

namespace Sys2Proof.Machine

/-! ## The configuration -/

theorem configured_of_session_eq {s t : State} (h : t.session = s.session) (hc : s.configured) : t.configured := by
  simp only [State.session, Prod.mk.injEq] at h
  obtain ⟨hm, htm, hp, hck, -⟩ := h
  simpa only [State.configured, hm, htm, hp, hck] using hc

/-- Before the first session only a reset and a session start have a step. -/
theorem Transition.config_of_fresh {s t : State} (h : Transition s t) (hf : s.fresh) :
    t.fresh ∨ t.configured := by
  obtain ⟨-, -, -, -, ho, hs, ha⟩ := hf
  cases h with
  | reset => exact .inl ⟨rfl, rfl, rfl, rfl, rfl, rfl, rfl⟩
  -- These transitions need an open session, a busy block or an active scan.
  | close | encoded | scanBegin | scanGoOn | scanGiveUp | begin | rejected | written | writeDone | writeFailed
  | invoke | polled | read | badChecksum | readFailed | pinged | located => simp_all [State.admits]
  -- The case left is a session start.
  | _ =>
    rename_i hm htm
    exact .inr ⟨_, _, _, _, rfl, rfl, rfl, rfl, hm, htm⟩

theorem Transition.config_of_configured {s t : State} (h : Transition s t) (hc : s.configured) :
    t.fresh ∨ t.configured := by
  obtain ⟨rest, -, rfl⟩ | ⟨rest, -, rfl⟩ | ⟨rest, p, m, tm, pol, c, -, -, hm, htm, rfl⟩ | h := h.session_cases
  · exact .inl ⟨rfl, rfl, rfl, rfl, rfl, rfl, rfl⟩
  · exact .inr hc
  · exact .inr ⟨_, _, _, _, rfl, rfl, rfl, rfl, hm, htm⟩
  · exact .inr (configured_of_session_eq h hc)

theorem Transition.config {s t : State} (h : Transition s t) (hc : s.fresh ∨ s.configured) :
    t.fresh ∨ t.configured :=
  hc.elim h.config_of_fresh h.config_of_configured

/-! ## The scan registers -/

/-- No scan: SCAN_ACTIVE is false and the other scan registers hold no value (R36). -/
def State.noScan (s : State) : Prop := s.scanRegs = (false, none, none, none)

theorem State.noScan.scanning {s : State} (h : s.noScan) : s.scanning := by
  simp only [State.noScan, State.scanRegs, Prod.mk.injEq] at h
  obtain ⟨ha, hregs⟩ := h
  simpa [State.scanning, ha] using hregs

theorem State.scanning.noScan {s : State} (h : s.scanning) (ha : s.scanActive = false) : s.noScan := by
  simp only [State.scanning, ha, Bool.false_eq_true, if_false] at h
  obtain ⟨hn, hhi, hf⟩ := h
  rw [State.noScan, State.scanRegs, ha, hn, hhi, hf]

theorem scanning_iff_of_scanActive {s : State} (ha : s.scanActive = true) :
    s.scanning ↔ ∃ n hi f, s.scanNext = some n ∧ s.scanHi = some hi ∧ s.scanFound = some f ∧ n ≤ hi ∧ hi ≤ 256 ∧
      f.Pairwise (fun a b => a.toNat < b.toNat) ∧ (∀ x ∈ f, x.toNat < n) ∧
      (s.seq ≠ .seqIdle → n < hi ∧ s.curOp = some (.ping (scanId n))) := by
  rw [State.scanning, if_pos ha]

/-- The scan registers and the operation in progress decide. -/
theorem State.scanning.of_scanRegs_eq {s t : State} (hi : s.scanning) (h : t.scanRegs = s.scanRegs)
    (hop : t.seq ≠ .seqIdle → s.seq ≠ .seqIdle ∧ t.curOp = s.curOp) : t.scanning := by
  simp only [State.scanRegs, Prod.mk.injEq] at h
  obtain ⟨ha, hn, hhi, hf⟩ := h
  cases hact : s.scanActive with
  | false => exact State.noScan.scanning (by
      rw [State.noScan, ← hi.noScan hact, State.scanRegs, State.scanRegs, ha, hn, hhi, hf])
  | true =>
    obtain ⟨n, hb, f, hn', hhi', hf', hle, hmax, hsorted, hbelow, hbusy⟩ := (scanning_iff_of_scanActive hact).mp hi
    refine (scanning_iff_of_scanActive (ha.trans hact)).mpr
      ⟨n, hb, f, hn.trans hn', hhi.trans hhi', hf.trans hf', hle, hmax, hsorted, hbelow, fun hq => ?_⟩
    obtain ⟨hq', hc⟩ := hop hq
    exact hc ▸ hbusy hq'

/-- An operation that ends without a word on the scan leaves it as it is. -/
theorem State.scanning.of_idle {s t : State} (hi : s.scanning) (h : t.scanRegs = s.scanRegs)
    (hq : t.seq = .seqIdle) : t.scanning :=
  hi.of_scanRegs_eq h fun hne => absurd hq hne

theorem raise_scanning {e : ErrorKind} {s t : State} (h : raise e s = .next t) (hi : s.scanning) : t.scanning := by
  obtain ⟨-, rfl⟩ | ⟨n, -, -, rfl⟩ := raise_next.mp h
  · exact hi.of_idle rfl rfl
  · exact State.noScan.scanning rfl

/-- Where the loop test goes on, its ping is the one of SCAN_NEXT. -/
theorem scanHead_scanning {s t : State} (h : scanHead s = .next t) (ha : s.scanActive = true)
    (hi : ∀ n hi, s.scanNext = some n → s.scanHi = some hi → n < hi → s.scanning) : t.scanning := by
  obtain ⟨n, hb, hn, hhi, ⟨hlt, rfl⟩ | ⟨-, rfl⟩⟩ := scanHead_next.mp h
  · obtain ⟨n', hb', f, hn', hhi', hf, hle, hmax, hsorted, hbelow, -⟩ :=
      (scanning_iff_of_scanActive ha).mp (hi n hb hn hhi hlt)
    obtain rfl : n = n' := Option.some.inj (hn.symm.trans hn')
    obtain rfl : hb = hb' := Option.some.inj (hhi.symm.trans hhi')
    exact (scanning_iff_of_scanActive (s := s.transmit _ _) ha).mpr
      ⟨n, hb, f, hn, hhi, hf, hle, hmax, hsorted, hbelow, fun _ => ⟨hlt, rfl⟩⟩
  · exact State.noScan.scanning rfl

/-- A scan's first values, for a range that is not empty. -/
theorem beginScan_scanning {lo hi : Nat} {s : State} (hq : s.seq = .seqIdle) (hlt : lo < hi) (hmax : hi ≤ 256) :
    (s.beginScan lo hi).scanning :=
  (scanning_iff_of_scanActive rfl).mpr
    ⟨lo, hi, [], rfl, rfl, rfl, Nat.le_of_lt hlt, hmax, .nil, by simp, fun hne => absurd hq hne⟩

theorem scanId_toNat {n : Nat} (h : n < 256) : (scanId n).toNat = n := by
  rw [scanId, BitVec.toNat_ofNat]
  exact Nat.mod_eq_of_lt h

/-- The found ids stay in ascending order below SCAN_NEXT, since the new one is SCAN_NEXT itself (R36, R206). -/
theorem scanItem_scanning {b : Bool} {s t : State} (hi : s.scanning) (ha : s.scanActive = true)
    (hq : s.seq ≠ .seqIdle) (h : scanItem b s = .next t) : t.scanning := by
  obtain ⟨n, hb, f, hn, hhi, hf, -, hmax, hsorted, hbelow, hbusy⟩ := (scanning_iff_of_scanActive ha).mp hi
  obtain ⟨hlt, -⟩ := hbusy hq
  have hnext : ∀ x ∈ f, x.toNat < n + 1 := fun x hx => Nat.lt_succ_of_lt (hbelow x hx)
  obtain ⟨n', hn', hitem⟩ := scanItem_next.mp h
  obtain rfl : n = n' := Option.some.inj (hn.symm.trans hn')
  obtain ⟨-, f', hf', rfl⟩ | ⟨-, rfl⟩ := hitem
  · obtain rfl : f = f' := Option.some.inj (hf.symm.trans hf')
    have hid : (scanId n).toNat = n := scanId_toNat (by omega)
    have hsorted' : (f ++ [scanId n]).Pairwise (fun a b => a.toNat < b.toNat) := by
      simpa [List.pairwise_append, hid] using ⟨hsorted, hbelow⟩
    have hbelow' : ∀ x ∈ f ++ [scanId n], x.toNat < n + 1 := by
      simpa [hid, or_imp, forall_and] using hnext
    exact (scanning_iff_of_scanActive (s := (s.endOperation.nextItem n _).post _) ha).mpr
      ⟨n + 1, hb, _, rfl, hhi, rfl, hlt, hmax, hsorted', hbelow', fun hne => absurd rfl hne⟩
  · exact (scanning_iff_of_scanActive (s := (s.endOperation.nextItem n _).post _) ha).mpr
      ⟨n + 1, hb, f, rfl, hhi, hf, hlt, hmax, hsorted, hnext, fun hne => absurd rfl hne⟩

theorem finishPing_scanning {b : Bool} {s t : State} (hi : s.scanning) (hq : s.seq ≠ .seqIdle)
    (h : finishPing b s = .next t) : t.scanning := by
  obtain ⟨-, rfl⟩ | ⟨ha, h⟩ := finishPing_next.mp h
  · exact hi.of_idle rfl rfl
  · exact scanItem_scanning hi ha hq h

/-- The read controller leaves the scan and the operation in progress alone. -/
theorem State.scanning.of_besideRead_eq {s t : State} (hi : s.scanning) (h : t.besideRead = s.besideRead) :
    t.scanning := by
  simp only [State.besideRead, Prod.mk.injEq] at h
  obtain ⟨-, hregs, hq, hc, -⟩ := h
  exact hi.of_scanRegs_eq hregs fun hne => ⟨hq ▸ hne, hc⟩

theorem Transition.scanning {s t : State} (h : Transition s t) (hi : s.scanning) : t.scanning := by
  cases h with
  | close | encoded => exact hi
  | scanBegin _ ha hmax h =>
    obtain ⟨-, hq, -⟩ := ha
    refine scanHead_scanning h rfl fun n hb hn hhi hlt => ?_
    obtain rfl : _ = n := Option.some.inj hn
    obtain rfl : _ = hb := Option.some.inj hhi
    exact beginScan_scanning hq hlt hmax
  | scanGoOn _ _ ha h => exact scanHead_scanning h ha fun _ _ _ _ _ => hi
  | begin _ ha =>
    obtain ⟨-, -, ha⟩ := ha
    exact State.noScan.scanning (hi.noScan ha :)
  | rejected _ ha _ _ h =>
    obtain ⟨-, hq, ha⟩ := ha
    exact raise_scanning h (hi.of_idle rfl hq)
  | written _ hq _ _ _ => exact hi.of_scanRegs_eq rfl fun _ => ⟨by simp [hq], rfl⟩
  | writeDone | located => exact hi.of_idle rfl rfl
  | writeFailed _ _ _ _ _ h => exact raise_scanning h hi
  | invoke => exact hi.of_besideRead_eq rfl
  | polled _ _ _ _ _ _ _ h => exact hi.of_besideRead_eq (pollAnswer_besideRead h :)
  | read _ _ _ h => exact hi.of_besideRead_eq (readAnswer_besideRead h :)
  | badChecksum _ _ _ _ _ h => exact raise_scanning h hi
  | readFailed _ _ _ _ h => exact raise_scanning h hi
  | pinged hq _ _ _ _ _ h => exact finishPing_scanning hi (by simp [hq]) h
  -- A reset, a session start and an abandoned scan leave no scan.
  | _ => exact State.noScan.scanning rfl

/-! ## The sequencer's and the controller's registers -/

theorem endOperation_operationEnded (s : State) : s.endOperation.operationEnded :=
  ⟨rfl, rfl, rfl, rfl, rfl, rfl, rfl, rfl, rfl, rfl, rfl⟩

theorem raise_operationEnded {e : ErrorKind} {s t : State} (h : raise e s = .next t) : t.operationEnded := by
  obtain ⟨-, rfl⟩ | ⟨n, -, -, rfl⟩ := raise_next.mp h
  · exact endOperation_operationEnded s
  · exact endOperation_operationEnded s

theorem finishPing_operationEnded {b : Bool} {s t : State} (h : finishPing b s = .next t) : t.operationEnded := by
  obtain ⟨-, rfl⟩ | ⟨-, h⟩ := finishPing_next.mp h
  · exact endOperation_operationEnded s
  · obtain ⟨n, -, ⟨-, f, -, rfl⟩ | ⟨-, rfl⟩⟩ := scanItem_next.mp h
    · exact endOperation_operationEnded s
    · exact endOperation_operationEnded s

theorem State.operationEnded.sequencing {s : State} (h : s.operationEnded) : s.sequencing := by
  have ⟨hs, _⟩ := h
  simpa only [State.sequencing, hs] using h

theorem State.sequencing.operationEnded {s : State} (h : s.sequencing) (hs : s.seq = .seqIdle) :
    s.operationEnded := by
  simpa only [State.sequencing, hs] using h

theorem State.sequencing.of_seqTx {s : State} (h : s.sequencing) (hs : s.seq = .seqTx) :
    (∃ i, s.transmitting i) ∧ s.readAtRest := by
  simpa only [State.sequencing, hs] using h

theorem sequencing_iff_of_seqRx {s : State} (hs : s.seq = .seqRx) :
    s.sequencing ↔ ∃ i n, s.transmitting i ∧ i.replyLength = some n ∧ s.readRegisters n := by
  simp only [State.sequencing, hs]

theorem readRegisters_of_readAtRest {n : Nat} {s : State} (h : s.readAtRest) : s.readRegisters n := by
  have ⟨hidle, _⟩ := h
  simpa only [State.readRegisters, hidle] using h

/-- An operation that starts finds the registers of the last one without values (R42). -/
theorem transmit_sequencing {i : Instr} {s : State} (h : s.operationEnded) (hreq : i.isRequest = true)
    (hwf : i.wf = true) : (s.transmit i (encode i)).sequencing := by
  obtain ⟨-, -, -, hrest⟩ := h
  exact ⟨⟨i, rfl, hreq, hwf, rfl⟩, hrest⟩

theorem scanHead_sequencing {s t : State} (h : scanHead s = .next t) (hi : s.operationEnded) : t.sequencing := by
  obtain ⟨n, hb, -, -, ⟨-, rfl⟩ | ⟨-, rfl⟩⟩ := scanHead_next.mp h
  · exact transmit_sequencing (i := .ping (scanId n)) hi rfl rfl
  · exact State.operationEnded.sequencing (s := s.endScan.post .complete) hi

/-- The answer to a poll: an attempt within budget is counted, and a read that goes on has budget left or is ready. -/
theorem pollAnswer_readRegisters {n m tm : Nat} {p : PollAnswer} {rest : List Input} {s t : State}
    (h : pollAnswer m p ((s.took rest).countPoll tm) = .next t) (hr : s.readRegisters n) (hs : s.rstate = .polling)
    (hm : s.cfgMaxRetries = some m) (hlt : s.attempt < m) : t.readRegisters n := by
  simp only [State.readRegisters, hs] at hr
  obtain ⟨hn, hbuf, herr, hflags, -⟩ := hr
  have hcount : 1 ≤ s.attempt + 1 := Nat.succ_le_succ (Nat.zero_le _)
  obtain ⟨-, rfl⟩ | ⟨-, rfl⟩ | ⟨-, -, hleft, rfl⟩ | ⟨-, -, rfl⟩ := pollAnswer_next.mp h
  · exact ⟨hn, hbuf, hflags, hcount, ⟨m, hm, hlt⟩, .inl rfl⟩
  · exact ⟨hn, hbuf, herr, hflags, hcount, m, hm, hlt⟩
  · simp only [State.readRegisters, State.countPoll_rstate, State.took_rstate, hs]
    exact ⟨hn, hbuf, herr, hflags, m, hm, hleft⟩
  · exact ⟨hn, hbuf, hflags, hcount, ⟨m, hm, hlt⟩, .inr rfl⟩

/-- The answer to TxRead: the bytes with their flags, or the reason. -/
theorem readAnswer_readRegisters {n : Nat} {a : ReadAnswer} {rest : List Input} {s t : State}
    (h : readAnswer a (s.took rest) = .next t) (hr : s.readRegisters n) (hs : s.rstate = .reading) :
    t.readRegisters n := by
  simp only [State.readRegisters, hs] at hr
  obtain ⟨hn, hbuf, herr, hflags, hcount, hbudget⟩ := hr
  obtain ⟨n', hn', ⟨bs, -, hlen, rfl⟩ | ⟨-, rfl⟩⟩ := readAnswer_next.mp h
  · obtain rfl : n = n' := Option.some.inj (hn.symm.trans hn')
    exact ⟨hn, herr, hcount, hbudget, bs, rfl, hlen, rfl, rfl, rfl⟩
  · exact ⟨hn, hbuf, hflags, hcount, hbudget, .inr rfl⟩

/-- The read controller leaves the operation in progress and its frame alone. -/
theorem transmitting_of_besideRead_eq {i : Instr} {s t : State} (h : t.besideRead = s.besideRead)
    (hi : s.transmitting i) : t.transmitting i := by
  simp only [State.besideRead, Prod.mk.injEq] at h
  obtain ⟨-, -, -, hc, hf⟩ := h
  simpa only [State.transmitting, hc, hf] using hi

theorem seq_of_besideRead_eq {s t : State} (h : t.besideRead = s.besideRead) : t.seq = s.seq := by
  simp only [State.besideRead, Prod.mk.injEq] at h
  obtain ⟨-, -, hq, -⟩ := h
  exact hq

/-- A busy block has a configuration (R25): the operation began in a session. -/
theorem Inv.configured_of_busy {s : State} (hi : Inv s) (hs : s.seq ≠ .seqIdle) : s.configured := by
  obtain ⟨-, -, -, -, -, hidle, -⟩ | hc := hi.config
  · exact absurd hidle hs
  · exact hc

theorem Transition.sequencing {s t : State} (h : Transition s t) (hi : Inv s) : t.sequencing := by
  have hseq := hi.sequence
  cases h with
  | close | encoded | scanGiveUp => exact hseq
  | scanBegin _ ha _ h =>
    obtain ⟨-, hs, -⟩ := ha
    exact scanHead_sequencing h (hseq.operationEnded hs)
  | scanGoOn _ hs _ h => exact scanHead_sequencing h (hseq.operationEnded hs)
  | begin _ ha hreq hwf =>
    obtain ⟨-, hs, -⟩ := ha
    exact transmit_sequencing (hseq.operationEnded hs) hreq hwf
  | written _ hs hc hn =>
    obtain ⟨⟨j, htx⟩, hrest⟩ := hseq.of_seqTx hs
    have ⟨hj, _⟩ := htx
    obtain rfl : j = _ := Option.some.inj (hj.symm.trans hc)
    exact (sequencing_iff_of_seqRx rfl).mpr ⟨j, _, htx, hn, readRegisters_of_readAtRest hrest⟩
  | invoke hs hr hc hn =>
    obtain ⟨j, k, htx, hk, hregs⟩ := (sequencing_iff_of_seqRx hs).mp hseq
    have ⟨hj, _⟩ := htx
    obtain rfl : j = _ := Option.some.inj (hj.symm.trans hc)
    simp only [State.readRegisters, hr] at hregs
    obtain ⟨-, -, -, hbuf, -, hflags⟩ := hregs
    obtain ⟨m, _, _, _, hm, -, -, -, hpos, -⟩ := hi.configured_of_busy (by simp [hs])
    exact (sequencing_iff_of_seqRx (s := s.invokeRead _) hs).mpr ⟨j, _, htx, hn, rfl, hbuf, rfl, hflags, m, hm, hpos⟩
  | polled hs hr _ hm _ hlt _ h =>
    obtain ⟨j, n, htx, hn, hregs⟩ := (sequencing_iff_of_seqRx hs).mp hseq
    have hbeside : t.besideRead = s.besideRead := (pollAnswer_besideRead h :)
    exact (sequencing_iff_of_seqRx ((seq_of_besideRead_eq hbeside).trans hs)).mpr
      ⟨j, n, transmitting_of_besideRead_eq hbeside htx, hn, pollAnswer_readRegisters h hregs hr hm hlt⟩
  | read hs hr _ h =>
    obtain ⟨j, n, htx, hn, hregs⟩ := (sequencing_iff_of_seqRx hs).mp hseq
    have hbeside : t.besideRead = s.besideRead := (readAnswer_besideRead h :)
    exact (sequencing_iff_of_seqRx ((seq_of_besideRead_eq hbeside).trans hs)).mpr
      ⟨j, n, transmitting_of_besideRead_eq hbeside htx, hn, readAnswer_readRegisters h hregs hr⟩
  | writeDone | located => exact State.operationEnded.sequencing (endOperation_operationEnded s :)
  | rejected _ _ _ _ h => exact (raise_operationEnded h).sequencing
  | writeFailed _ _ _ _ _ h => exact (raise_operationEnded h).sequencing
  | badChecksum _ _ _ _ _ h => exact (raise_operationEnded h).sequencing
  | readFailed _ _ _ _ h => exact (raise_operationEnded h).sequencing
  | pinged _ _ _ _ _ _ h => exact (finishPing_operationEnded h).sequencing
  -- A reset and a session start leave no operation.
  | _ => exact State.operationEnded.sequencing ⟨rfl, rfl, rfl, rfl, rfl, rfl, rfl, rfl, rfl, rfl, rfl⟩

/-- Every transition keeps the three parts of the invariant. -/
theorem Transition.inv {s t : State} (h : Transition s t) (hi : Inv s) : Inv t :=
  ⟨h.config hi.config, h.sequencing hi, h.scanning hi.scan⟩

/-- Settles O16. -/
theorem everyStepKeepsTheInvariant : Obligations.EveryStepKeepsTheInvariant := by
  unfold Obligations.EveryStepKeepsTheInvariant
  exact fun s t hi hstep => (step_transition hstep).inv hi

end Sys2Proof.Machine
end

section
/-! PROOF. Family other, 20_memory.md section 4: requests keep their order, and polls their budget. -/

namespace Sys2Proof.Machine

/-! ## The phase of the bus -/

theorem busPhase_concat (outs : List Output) (o : Output) :
    busPhase (outs ++ [o]) = (busPhase outs).bind (·.after o) := by
  simp [busPhase, List.foldlM_append, Option.bind_eq_bind]

/-- A result may come in any phase, and the bus is quiet after it. -/
theorem busPhase_concat_result {outs : List Output} {ph : BusPhase} (h : busPhase outs = some ph) (r : Result) :
    busPhase (outs ++ [.result r]) = some .quiet := by
  rw [busPhase_concat, h]
  cases ph <;> rfl

theorem busPhase_concat_txWrite {outs : List Output} (h : busPhase outs = some .quiet) (f : Frame) :
    busPhase (outs ++ [.request (.txWrite f)]) = some .written := by
  rw [busPhase_concat, h]
  rfl

/-- The `k`-th poll after the write, written as the turn of Polling is. -/
theorem busPhase_concat_txPoll {outs : List Output} {k : Nat}
    (h : busPhase outs = some (if k = 0 then .written else .polled k)) (tm : Nat) :
    busPhase (outs ++ [.request (.txPoll tm)]) = some (.polled (k + 1)) := by
  rw [busPhase_concat, h]
  cases k <;> rfl

theorem busPhase_concat_txRead {outs : List Output} {k : Nat} (h : busPhase outs = some (.polled k)) (n : Nat) :
    busPhase (outs ++ [.request (.txRead n)]) = some .read := by
  rw [busPhase_concat, h]
  rfl

/-! ## Whose turn it is -/

theorem State.turn.phase {s : State} (h : s.turn) : ∃ ph, busPhase s.outputs = some ph := by
  unfold State.turn at h
  split at h
  · exact ⟨_, h⟩
  · exact ⟨_, h⟩
  · split at h
    · exact ⟨_, h⟩
    · exact ⟨_, h⟩
    · exact ⟨_, h⟩
    · exact ⟨_, h⟩
    · exact h.elim (fun h => ⟨_, h⟩) (fun h => ⟨_, h⟩)

theorem turn_iff_of_seqIdle {s : State} (hs : s.seq = .seqIdle) : s.turn ↔ busPhase s.outputs = some .quiet := by
  simp only [State.turn, hs]

theorem turn_iff_of_seqTx {s : State} (hs : s.seq = .seqTx) : s.turn ↔ busPhase s.outputs = some .quiet := by
  simp only [State.turn, hs]

section
variable {s : State} (hs : s.seq = .seqRx)
include hs

theorem turn_iff_of_rstate_idle (hr : s.rstate = .idle) : s.turn ↔ busPhase s.outputs = some .written := by
  simp only [State.turn, hs, hr]

theorem turn_iff_of_polling (hr : s.rstate = .polling) :
    s.turn ↔ busPhase s.outputs = some (if s.attempt = 0 then .written else .polled s.attempt) := by
  simp only [State.turn, hs, hr]

theorem turn_iff_of_reading (hr : s.rstate = .reading) :
    s.turn ↔ busPhase s.outputs = some (.polled s.attempt) := by
  simp only [State.turn, hs, hr]

theorem turn_iff_of_success (hr : s.rstate = .success) : s.turn ↔ busPhase s.outputs = some .read := by
  simp only [State.turn, hs, hr]

theorem turn_iff_of_failed (hr : s.rstate = .failed) :
    s.turn ↔ busPhase s.outputs = some (.polled s.attempt) ∨ busPhase s.outputs = some .read := by
  simp only [State.turn, hs, hr]

end

/-- An operation that ends posts one result, whatever it had issued. -/
theorem turn_of_result {s t : State} {r : Result} {ph : BusPhase} (hs : t.seq = .seqIdle)
    (ho : t.outputs = s.outputs ++ [.result r]) (h : busPhase s.outputs = some ph) : t.turn := by
  rw [turn_iff_of_seqIdle hs, ho]
  exact busPhase_concat_result h r

theorem raise_turn {e : ErrorKind} {s t : State} (h : raise e s = .next t) {ph : BusPhase}
    (hph : busPhase s.outputs = some ph) : t.turn := by
  obtain ⟨-, rfl⟩ | ⟨n, -, -, rfl⟩ := raise_next.mp h
  · exact turn_of_result rfl rfl hph
  · exact turn_of_result rfl rfl hph

theorem finishPing_turn {b : Bool} {s t : State} (h : finishPing b s = .next t) {ph : BusPhase}
    (hph : busPhase s.outputs = some ph) : t.turn := by
  obtain ⟨-, rfl⟩ | ⟨-, h⟩ := finishPing_next.mp h
  · exact turn_of_result rfl rfl hph
  · obtain ⟨n, -, ⟨-, f, -, rfl⟩ | ⟨-, rfl⟩⟩ := scanItem_next.mp h
    · exact turn_of_result rfl rfl hph
    · exact turn_of_result rfl rfl hph

theorem scanHead_turn {s t : State} (h : scanHead s = .next t) (hs : s.seq = .seqIdle)
    (hph : busPhase s.outputs = some .quiet) : t.turn := by
  obtain ⟨n, hb, -, -, ⟨-, rfl⟩ | ⟨-, rfl⟩⟩ := scanHead_next.mp h
  · exact (turn_iff_of_seqTx rfl).mpr hph
  · exact turn_of_result hs rfl hph

theorem pollAnswer_turn {m tm : Nat} {p : PollAnswer} {rest : List Input} {s t : State}
    (h : pollAnswer m p ((s.took rest).countPoll tm) = .next t) (hs : s.seq = .seqRx) (hr : s.rstate = .polling)
    (ht : s.turn) : t.turn := by
  have hph := busPhase_concat_txPoll ((turn_iff_of_polling hs hr).mp ht) tm
  have hs' : t.seq = .seqRx := (seq_of_besideRead_eq (pollAnswer_besideRead h)).trans hs
  obtain ⟨-, rfl⟩ | ⟨-, rfl⟩ | ⟨-, -, -, rfl⟩ | ⟨-, -, rfl⟩ := pollAnswer_next.mp h
  · exact (turn_iff_of_failed hs' rfl).mpr (.inl hph)
  · exact (turn_iff_of_reading hs' rfl).mpr hph
  · exact (turn_iff_of_polling hs' hr).mpr hph
  · exact (turn_iff_of_failed hs' rfl).mpr (.inl hph)

theorem readAnswer_turn {a : ReadAnswer} {rest : List Input} {s t : State}
    (h : readAnswer a (s.took rest) = .next t) (hs : s.seq = .seqRx) (hr : s.rstate = .reading) (ht : s.turn) :
    t.turn := by
  have hph := busPhase_concat_txRead ((turn_iff_of_reading hs hr).mp ht)
  have hs' : t.seq = .seqRx := (seq_of_besideRead_eq (readAnswer_besideRead h)).trans hs
  obtain ⟨n, -, ⟨bs, -, -, rfl⟩ | ⟨-, rfl⟩⟩ := readAnswer_next.mp h
  · exact (turn_iff_of_success hs' rfl).mpr (hph n)
  · exact (turn_iff_of_failed hs' rfl).mpr (.inr (hph n))

theorem Transition.turn {s t : State} (h : Transition s t) (hi : Inv s) (ht : s.turn) : t.turn := by
  obtain ⟨ph, hph⟩ := ht.phase
  cases h with
  | reset => rfl
  | close => exact ht
  | encoded _ ha =>
    obtain ⟨-, hs, -⟩ := ha
    exact turn_of_result hs rfl hph
  | scanBegin _ ha _ h =>
    obtain ⟨-, hs, -⟩ := ha
    exact scanHead_turn h hs ((turn_iff_of_seqIdle hs).mp ht)
  | scanGoOn _ hs _ h => exact scanHead_turn h hs ((turn_iff_of_seqIdle hs).mp ht)
  | scanGiveUp _ hs => exact turn_of_result hs rfl hph
  | begin _ ha =>
    obtain ⟨-, hs, -⟩ := ha
    exact (turn_iff_of_seqTx rfl).mpr ((turn_iff_of_seqIdle hs).mp ht)
  | rejected _ _ _ _ h => exact raise_turn h hph
  | written _ hs =>
    obtain ⟨-, hidle, -⟩ := hi.sequence.of_seqTx hs
    exact (turn_iff_of_rstate_idle (s := { (s.took _).issue _ with seq := .seqRx }) rfl hidle).mpr
      (busPhase_concat_txWrite ((turn_iff_of_seqTx hs).mp ht) _)
  | writeDone _ hs =>
    exact turn_of_result rfl rfl (busPhase_concat_txWrite ((turn_iff_of_seqTx hs).mp ht) _)
  | writeFailed _ _ hs _ _ h => exact raise_turn h (busPhase_concat_txWrite ((turn_iff_of_seqTx hs).mp ht) _)
  | invoke hs hr => exact (turn_iff_of_polling (s := s.invokeRead _) hs rfl).mpr ((turn_iff_of_rstate_idle hs hr).mp ht)
  | polled hs hr _ _ _ _ _ h => exact pollAnswer_turn h hs hr ht
  | read hs hr _ h => exact readAnswer_turn h hs hr ht
  | badChecksum _ _ _ _ _ h => exact raise_turn h hph
  | readFailed _ _ _ _ h => exact raise_turn h hph
  | pinged _ _ _ _ _ _ h => exact finishPing_turn h hph
  | located => exact turn_of_result rfl rfl hph
  -- The case left is a session start, which keeps the outputs and the idle block.
  | _ => exact (turn_iff_of_seqIdle rfl).mpr ((turn_iff_of_seqIdle ‹s.seq = .seqIdle›).mp ht)

/-- In every state of the controller ATTEMPT is within the budget (10_state.md R30). -/
theorem Inv.attempt_le {s : State} (hi : Inv s) (hs : s.seq = .seqRx) : ∃ m, s.cfgMaxRetries = some m ∧ s.attempt ≤ m := by
  obtain ⟨i, n, -, -, hregs⟩ := (sequencing_iff_of_seqRx hs).mp hi.sequence
  cases hr : s.rstate with
  | idle =>
    simp only [State.readRegisters, hr] at hregs
    obtain ⟨-, hzero, -⟩ := hregs
    obtain ⟨m, _, _, _, hm, -⟩ := hi.configured_of_busy (by simp [hs])
    exact ⟨m, hm, hzero ▸ Nat.zero_le m⟩
  | polling =>
    simp only [State.readRegisters, hr] at hregs
    obtain ⟨-, -, -, -, m, hm, hlt⟩ := hregs
    exact ⟨m, hm, Nat.le_of_lt hlt⟩
  | reading =>
    simp only [State.readRegisters, hr] at hregs
    obtain ⟨-, -, -, -, -, hbudget⟩ := hregs
    exact hbudget
  | success =>
    simp only [State.readRegisters, hr] at hregs
    obtain ⟨-, -, -, hbudget, -⟩ := hregs
    exact hbudget
  | failed =>
    simp only [State.readRegisters, hr] at hregs
    obtain ⟨-, -, -, -, hbudget, -⟩ := hregs
    exact hbudget

/-- The polls on the bus are those ATTEMPT counts. -/
theorem State.turn.polled {s : State} {k : Nat} (ht : s.turn) (hk : busPhase s.outputs = some (.polled k)) :
    s.seq = .seqRx ∧ k = s.attempt := by
  have hseq : s.seq = .seqRx := by
    cases hs : s.seq with
    | seqIdle => cases hk.symm.trans ((turn_iff_of_seqIdle hs).mp ht)
    | seqTx => cases hk.symm.trans ((turn_iff_of_seqTx hs).mp ht)
    | seqRx => rfl
  refine ⟨hseq, ?_⟩
  cases hr : s.rstate with
  | idle => cases hk.symm.trans ((turn_iff_of_rstate_idle hseq hr).mp ht)
  | polling =>
    have h := hk.symm.trans ((turn_iff_of_polling hseq hr).mp ht)
    split at h <;> cases h
    rfl
  | reading =>
    cases hk.symm.trans ((turn_iff_of_reading hseq hr).mp ht)
    rfl
  | success => cases hk.symm.trans ((turn_iff_of_success hseq hr).mp ht)
  | failed =>
    obtain h | h := (turn_iff_of_failed hseq hr).mp ht <;> cases hk.symm.trans h
    rfl

/-- Settles O53. The bus phase follows the registers, and the polls it counts are ATTEMPT, which the invariant
keeps within the budget. -/
theorem requestsTakeTurnsWithinTheBudget : Obligations.RequestsTakeTurnsWithinTheBudget := by
  unfold Obligations.RequestsTakeTurnsWithinTheBudget
  intro s t hi hturn hstep
  have htr := step_transition hstep
  have ht : t.turn := htr.turn hi hturn
  refine ⟨ht, fun k hk => ?_⟩
  obtain ⟨hs, rfl⟩ := ht.polled hk
  exact (htr.inv hi).attempt_le hs

end Sys2Proof.Machine
end

section
/-! PROOF. Family other: a busy block waits for an answer or goes on, and reads no register without a value. -/

namespace Sys2Proof.Machine

/-! ## Where a busy block stands -/

/-- The operation in progress, and for its read the registers of the controller (10_state.md R26 to R30). -/
theorem Inv.busy {s : State} (hi : Inv s) (hs : s.seq ≠ .seqIdle) :
    ∃ i, s.transmitting i ∧
      (s.seq = .seqTx ∨ s.seq = .seqRx ∧ ∃ n, i.replyLength = some n ∧ s.readRegisters n) := by
  cases hq : s.seq with
  | seqIdle => exact absurd hq hs
  | seqTx =>
    obtain ⟨⟨i, htx⟩, -⟩ := hi.sequence.of_seqTx hq
    exact ⟨i, htx, .inl rfl⟩
  | seqRx =>
    obtain ⟨i, n, htx, hn, hregs⟩ := (sequencing_iff_of_seqRx hq).mp hi.sequence
    exact ⟨i, htx, .inr ⟨rfl, n, hn, hregs⟩⟩

theorem outstanding_of_seqTx {s : State} {f : Frame} (hs : s.seq = .seqTx) (hf : s.txbuf = some f) :
    s.outstanding = some (.txWrite f) := by
  simp only [State.outstanding, hs, hf, Option.map_some]

theorem outstanding_of_polling {s : State} {tm : Nat} (hs : s.seq = .seqRx) (hr : s.rstate = .polling)
    (htm : s.cfgPollTimeout = some tm) : s.outstanding = some (.txPoll tm) := by
  simp only [State.outstanding, hs, hr, htm, Option.map_some]

theorem outstanding_of_reading {s : State} {n : Nat} (hs : s.seq = .seqRx) (hr : s.rstate = .reading)
    (hn : s.rxn = some n) : s.outstanding = some (.txRead n) := by
  simp only [State.outstanding, hs, hr, hn, Option.map_some]

/-! ## Waiting -/

/-- What a block does whose outstanding request is not answered next: it is stuck on no input, and no other input
has a step (42_poll_controller.md R170, R178; 70_reset_and_hazards.md R277). -/
def State.stalled (q : Request) (s : State) : Out :=
  awaitAnswer q s fun _ _ => .refused .noTransition

/-- Only an answer that stands next decides what a wait leads to. -/
theorem awaitAnswer_congr {q : Request} {s : State} {k k' : Answer → State → Out}
    (h : ∀ a rest, s.inputs = .answer a :: rest → k a (s.took rest) = k' a (s.took rest)) :
    awaitAnswer q s k = awaitAnswer q s k' := by
  unfold awaitAnswer
  split
  · rfl
  · rename_i a rest hin
    exact h a rest hin
  all_goals rfl

theorem txPhase_of_not_answered {k : State → Out} {s : State} {f : Frame} (hf : s.txbuf = some f)
    (h : answered (.txWrite f) s.inputs = false) : txPhase k s = s.stalled (.txWrite f) := by
  rw [txPhase, hf, need_some]
  refine awaitAnswer_congr fun a rest hin => ?_
  cases a with
  | write w => simp [hin, answered] at h
  | poll | read => rfl

theorem pollStep_of_not_answered {s : State} {m tm : Nat} (hm : s.cfgMaxRetries = some m)
    (htm : s.cfgPollTimeout = some tm) (hlt : s.attempt < m) (h : answered (.txPoll tm) s.inputs = false) :
    pollStep s = s.stalled (.txPoll tm) := by
  rw [pollStep, hm, need_some, htm, need_some, if_pos hlt]
  refine awaitAnswer_congr fun a rest hin => ?_
  cases a with
  | poll p => simp [hin, answered] at h
  | write | read => rfl

theorem readStep_of_not_answered {s : State} {n : Nat} (hn : s.rxn = some n)
    (h : answered (.txRead n) s.inputs = false) : readStep s = s.stalled (.txRead n) := by
  rw [readStep, hn, need_some]
  refine awaitAnswer_congr fun a rest hin => ?_
  cases a with
  | read r => simp [hin, answered] at h
  | write | poll => rfl

/-- A block whose request is not answered next waits, and that is all it does. -/
theorem Inv.step_stalled {s : State} {q : Request} (hi : Inv s) (hq : s.outstanding = some q)
    (hp : preempts s.inputs = false) (ha : answered q s.inputs = false) : step s = s.stalled q := by
  have hs : s.seq ≠ .seqIdle := by
    intro hs
    simp [State.outstanding, hs] at hq
  obtain ⟨i, ⟨hc, hreq, -, hf⟩, hs | ⟨hs, n, hn, hregs⟩⟩ := hi.busy hs
  · cases hq.symm.trans (outstanding_of_seqTx hs hf)
    rw [step_of_seqTx hreq hs hc hp]
    exact txPhase_of_not_answered hf ha
  · cases hr : s.rstate with
    | polling =>
      obtain ⟨_, tm, _, _, -, htm, -⟩ := hi.configured_of_busy (by simp [hs])
      simp only [State.readRegisters, hr] at hregs
      obtain ⟨-, -, -, -, m, hm, hlt⟩ := hregs
      cases hq.symm.trans (outstanding_of_polling hs hr htm)
      rw [step_of_polling hn hs hc hr hp]
      exact pollStep_of_not_answered hm htm hlt ha
    | reading =>
      simp only [State.readRegisters, hr] at hregs
      obtain ⟨hrxn, -⟩ := hregs
      cases hq.symm.trans (outstanding_of_reading hs hr hrxn)
      rw [step_of_reading hn hs hc hr hp]
      exact readStep_of_not_answered hrxn ha
    | idle | success | failed => simp [State.outstanding, hs, hr] at hq

/-- Settles O40. -/
theorem unansweredRequestLeavesTheBlockStuck : Obligations.UnansweredRequestLeavesTheBlockStuck := by
  unfold Obligations.UnansweredRequestLeavesTheBlockStuck
  intro s q hi hin hq
  rw [hi.step_stalled hq (by rw [hin]; rfl) (by rw [hin]; rfl), State.stalled, awaitAnswer, hin]

/-! ## A command given to a busy block -/

theorem raise_inputs {e : ErrorKind} {s t : State} (h : raise e s = .next t) : t.inputs = s.inputs := by
  obtain ⟨-, rfl⟩ | ⟨n, -, -, rfl⟩ := raise_next.mp h <;> rfl

theorem finishPing_inputs {b : Bool} {s t : State} (h : finishPing b s = .next t) : t.inputs = s.inputs := by
  obtain ⟨-, rfl⟩ | ⟨-, h⟩ := finishPing_next.mp h
  · rfl
  · obtain ⟨n, -, ⟨-, f, -, rfl⟩ | ⟨-, rfl⟩⟩ := scanItem_next.mp h <;> rfl

/-- The steps of a busy block that take an input take a reset, a close or an answer. -/
theorem Transition.inputs_of_busy {s t : State} {c : Command} {rest : List Input} (h : Transition s t)
    (hs : s.seq ≠ .seqIdle) (hin : s.inputs = .command c :: rest) : t.inputs = s.inputs := by
  cases h with
  | invoke | located => rfl
  | badChecksum _ _ _ _ _ h => exact raise_inputs h
  | readFailed _ _ _ _ h => exact raise_inputs h
  | pinged _ _ _ _ _ _ h => exact finishPing_inputs h
  | encoded _ ha | scanBegin _ ha | begin _ ha | rejected _ ha =>
    obtain ⟨-, hidle, -⟩ := ha
    exact absurd hidle hs
  -- Every other transition takes an input that is no command.
  | _ => simp_all

/-- Settles O22. -/
theorem busyBlockTakesNoCommand : Obligations.BusyBlockTakesNoCommand := by
  unfold Obligations.BusyBlockTakesNoCommand
  intro s c rest hin
  refine ⟨fun t hs hstep => (step_transition hstep).inputs_of_busy hs hin, fun hi hq => ?waiting,
    fun hs ha ho hc => ?between⟩
  case waiting =>
    obtain ⟨q, hq⟩ := Option.ne_none_iff_exists'.mp hq
    rw [hi.step_stalled hq (by rw [hin]; rfl) (by rw [hin]; rfl), State.stalled, awaitAnswer, hin]
  case between =>
    obtain ⟨k, hk⟩ := step_hostCommand hs hc hin
    rw [hk]
    exact guarded_of_scanActive (s := s.took rest) ho ha k

/-! ## Going on -/

theorem answered_txWrite {f : Frame} {l : List Input} (h : answered (.txWrite f) l = true) :
    ∃ a rest, l = .answer (.write a) :: rest := by
  unfold answered at h
  split at h
  · exact ⟨_, _, rfl⟩
  all_goals cases h

theorem answered_txPoll {tm : Nat} {l : List Input} (h : answered (.txPoll tm) l = true) :
    ∃ p rest, l = .answer (.poll p) :: rest := by
  unfold answered at h
  split at h
  case h_2 => exact ⟨_, _, rfl⟩
  all_goals cases h

theorem answered_txRead {n : Nat} {l : List Input} (h : answered (.txRead n) l = true) :
    ∃ a rest, l = .answer (.read a) :: rest := by
  unfold answered at h
  split at h
  case h_3 => exact ⟨_, _, rfl⟩
  all_goals cases h

/-- In a scan error entry reads SCAN_NEXT, which has a value then. -/
theorem exists_raise {s : State} (h : s.scanning) (e : ErrorKind) : ∃ t, raise e s = .next t := by
  cases ha : s.scanActive with
  | false => exact ⟨_, raise_of_scanActive_false e ha⟩
  | true =>
    obtain ⟨n, _, _, hn, -⟩ := (scanning_iff_of_scanActive ha).mp h
    exact ⟨_, raise_of_scanActive_true e ha hn⟩

theorem exists_finishPing {s : State} (h : s.scanning) (b : Bool) : ∃ t, finishPing b s = .next t := by
  cases ha : s.scanActive with
  | false => exact ⟨_, finishPing_of_scanActive_false b ha⟩
  | true =>
    obtain ⟨n, _, f, hn, -, hf, -⟩ := (scanning_iff_of_scanActive ha).mp h
    cases b with
    | true => exact ⟨_, finishPing_next.mpr (.inr ⟨ha, scanItem_next.mpr ⟨n, hn, .inl ⟨rfl, f, hf, rfl⟩⟩⟩)⟩
    | false => exact ⟨_, finishPing_next.mpr (.inr ⟨ha, scanItem_next.mpr ⟨n, hn, .inr ⟨rfl, rfl⟩⟩⟩)⟩

/-- The loop test reads SCAN_NEXT and SCAN_HI and no more. -/
theorem exists_scanHead {s : State} {n hi : Nat} (hn : s.scanNext = some n) (hhi : s.scanHi = some hi) :
    ∃ t, scanHead s = .next t := by
  by_cases hlt : n < hi
  · exact ⟨_, scanHead_next.mpr ⟨n, hi, hn, hhi, .inl ⟨hlt, rfl⟩⟩⟩
  · exact ⟨_, scanHead_next.mpr ⟨n, hi, hn, hhi, .inr ⟨hlt, rfl⟩⟩⟩

theorem exists_afterWrite (i : Instr) (s : State) : ∃ t, afterWrite i s = .next t := by
  unfold afterWrite
  cases i.replyLength with
  | some n => exact ⟨_, rfl⟩
  | none => exact ⟨_, rfl⟩

theorem exists_txPhase {i : Instr} {s : State} {f : Frame} {a : WriteAnswer} {rest : List Input}
    (hsc : s.scanning) (hf : s.txbuf = some f) (hin : s.inputs = .answer (.write a) :: rest) :
    ∃ t, txPhase (afterWrite i) s = .next t := by
  by_cases ha : a = .writeOk f.length
  · obtain ⟨t, ht⟩ := exists_afterWrite i (State.issue (.txWrite f) { s with inputs := rest })
    exact ⟨t, txPhase_next.mpr ⟨f, a, rest, hf, hin, .inl ⟨ha, ht⟩⟩⟩
  · obtain ⟨t, ht⟩ := exists_raise (s := State.issue (.txWrite f) { s with inputs := rest }) hsc .transportWriteFailed
    exact ⟨t, txPhase_next.mpr ⟨f, a, rest, hf, hin, .inr ⟨ha, ht⟩⟩⟩

theorem exists_pollAnswer {s : State} {pol : TimeoutPolicy} (hp : s.cfgTimeoutPolicy = some pol) (m : Nat)
    (a : PollAnswer) : ∃ t, pollAnswer m a s = .next t := by
  cases a with
  | pollErr => exact ⟨_, rfl⟩
  | ready => exact ⟨_, rfl⟩
  | timeout =>
    rw [pollAnswer, hp, need_some]
    cases pol with
    | abortOnTimeout => exact ⟨_, rfl⟩
    | retryOnTimeout =>
      by_cases hlt : s.attempt < m
      · exact ⟨s, if_pos hlt⟩
      · exact ⟨_, if_neg hlt⟩

theorem exists_readAnswer {s : State} {n : Nat} (hn : s.rxn = some n) (a : ReadAnswer) :
    ∃ t, readAnswer a s = .next t := by
  rw [readAnswer, hn, need_some]
  cases a with
  | readErr => exact ⟨_, rfl⟩
  | readOk bs =>
    by_cases hlen : bs.length = n
    · exact ⟨_, if_pos hlen⟩
    · exact ⟨_, if_neg hlen⟩

/-- A reply of the expected length has a result: under Verify with a good checksum, or under Trust. -/
theorem exists_completion {i : Instr} {n : Nat} {bs : Frame} {s : State} (hi : Inv s) (hn : i.replyLength = some n)
    (hs : s.seq = .seqRx) (hr : s.rstate = .success) (hc : s.curOp = some i) (hb : s.rxbuf = some bs)
    (hlen : bs.length = n) (hk : s.pChkOk = some (chkOk bs)) : ∃ t, exec i s = .next t := by
  obtain ⟨_, _, _, ck, -, -, -, hck, -⟩ := hi.configured_of_busy (by simp [hs])
  have hacc : s.replyAccepted ∨ s.cfgReplyCheck = some .verify ∧ s.pChkOk = some false := by
    cases ck with
    | trust => exact .inl (.inl hck)
    | verify =>
      cases hok : chkOk bs with
      | true => exact .inl (.inr ⟨hck, hok ▸ hk⟩)
      | false => exact .inr ⟨hck, hok ▸ hk⟩
  obtain hacc | ⟨hv, hbad⟩ := hacc
  · obtain ⟨id, rfl, rfl⟩ | ⟨id, rfl, rfl⟩ := replyLength_some hn
    · rw [exec_ping_of_success hs hr hc hb hlen hacc]
      exact exists_finishPing hi.scan _
    · obtain ⟨v, hv⟩ := position_of_length hlen
      exact ⟨_, exec_getPosition_of_success hs hr hc hb hv hacc⟩
  · rw [exec_of_bad_checksum hn hs hc hr hb hv hbad]
    exact exists_raise hi.scan _

/-- A busy block whose outstanding request, if any, is answered next has a step (R279). -/
theorem Inv.exists_step_of_busy {s : State} (hi : Inv s) (hs : s.seq ≠ .seqIdle) (hp : preempts s.inputs = false)
    (ha : ∀ q, s.outstanding = some q → answered q s.inputs = true) : ∃ t, step s = .next t := by
  obtain ⟨i, ⟨hc, hreq, -, hf⟩, hs | ⟨hs, n, hn, hregs⟩⟩ := hi.busy hs
  · obtain ⟨a, rest, hin⟩ := answered_txWrite (ha _ (outstanding_of_seqTx hs hf))
    rw [step_of_seqTx hreq hs hc hp]
    exact exists_txPhase hi.scan hf hin
  · cases hr : s.rstate with
    | idle => exact ⟨_, (step_of_seqRx hn hs hc (by simp [hr]) hp).trans (exec_of_rstate_idle hn hs hc hr)⟩
    | polling =>
      obtain ⟨_, tm, pol, _, -, htm, hpol, -⟩ := hi.configured_of_busy (by simp [hs])
      simp only [State.readRegisters, hr] at hregs
      obtain ⟨-, -, -, -, m, hm, hlt⟩ := hregs
      obtain ⟨p, rest, hin⟩ := answered_txPoll (ha _ (outstanding_of_polling hs hr htm))
      obtain ⟨t, ht⟩ := exists_pollAnswer (s := State.countPoll tm { s with inputs := rest }) hpol m p
      rw [step_of_polling hn hs hc hr hp]
      exact ⟨t, pollStep_next.mpr ⟨m, tm, p, rest, hm, htm, hlt, hin, ht⟩⟩
    | reading =>
      simp only [State.readRegisters, hr] at hregs
      obtain ⟨hrxn, -⟩ := hregs
      obtain ⟨a, rest, hin⟩ := answered_txRead (ha _ (outstanding_of_reading hs hr hrxn))
      rw [step_of_reading hn hs hc hr hp, readStep_of_answer hin]
      exact exists_readAnswer (s := s.took rest) hrxn a
    | success =>
      simp only [State.readRegisters, hr] at hregs
      obtain ⟨-, -, -, -, bs, hb, hlen, -, -, hk⟩ := hregs
      rw [step_of_seqRx hn hs hc (by simp [hr]) hp]
      exact exists_completion hi hn hs hr hc hb hlen hk
    | failed =>
      simp only [State.readRegisters, hr] at hregs
      obtain ⟨-, -, -, -, -, herr⟩ := hregs
      obtain ⟨e, he⟩ : ∃ e, s.rerr = some e := herr.elim (fun h => ⟨_, h⟩) (fun h => ⟨_, h⟩)
      rw [step_of_seqRx hn hs hc (by simp [hr]) hp, exec_of_failed hn hs hc hr he]
      exact exists_raise hi.scan e

/-! ## No register without a value is read -/

/-- An outcome that is neither the fault of 10_state.md R41 nor the refusal of a reply's length (log 19). -/
def sound : Out → Prop
  | .fault (.unwrittenState _) => False
  | .refused .replyLength => False
  | _ => True

theorem sound_of_next {o : Out} (h : ∃ t, o = .next t) : sound o := by
  obtain ⟨t, rfl⟩ := h
  trivial

theorem State.stalled_sound (q : Request) (s : State) : sound (s.stalled q) := by
  unfold State.stalled awaitAnswer
  split <;> trivial

theorem guarded_sound {s : State} {k : State → Out} (h : s.admits → sound (k s)) : sound (guarded s k) := by
  by_cases ha : s.admits
  · rw [guarded_of_admits ha]
    exact h ha
  · unfold guarded
    split
    · trivial
    · split
      · trivial
      · rename_i hopen hbusy
        simp only [not_or, ne_eq, not_not, Bool.not_eq_true] at hbusy
        exact absurd ⟨by simpa using hopen, hbusy⟩ ha

theorem closeSession_sound (s : State) : sound (closeSession s) := by
  unfold closeSession
  split <;> trivial

theorem startSession_sound (p : SessionParams) (s : State) : sound (startSession p s) := by
  unfold startSession
  repeat' split
  all_goals trivial

theorem opPhase_sound_of_seqIdle {i : Instr} {start tx rx : State → Out} {s : State} (hs : s.seq = .seqIdle)
    (h : s.admits → sound (start s)) : sound (opPhase i start tx rx s) := by
  rw [opPhase_of_seqIdle hs]
  exact guarded_sound h

/-- The guard lets a start through outside a scan only, where an error reads no register. -/
theorem startChecked_sound {i : Instr} {r : Except ErrorKind Frame} {s : State} (ha : s.admits) :
    sound (startChecked i r s) := by
  obtain ⟨-, -, ha⟩ := ha
  cases r with
  | ok f => trivial
  | error e => exact sound_of_next ⟨_, raise_of_scanActive_false (s := { s with curOp := some i }) e ha⟩

/-- A command that runs a row starts or raises or is refused. -/
theorem exec_sound_of_seqIdle {s : State} (hs : s.seq = .seqIdle) (i : Instr) : sound (exec i s) := by
  cases i with
  | ping id => exact opPhase_sound_of_seqIdle hs fun _ => trivial
  | setId | move | getPosition | setSpeed => exact opPhase_sound_of_seqIdle hs startChecked_sound
  | pingReply | positionReply =>
    rw [exec_reply rfl, receiveReply, if_neg (by simp [hs])]
    trivial
  | _ => trivial

theorem idleInput_sound {s : State} (hi : Inv s) {x : Input} {rest : List Input} (hx : ∀ i, x ≠ .command (.op i)) :
    sound (idleInput x (s.took rest)) := by
  cases x with
  | reset => trivial
  | closeSession => exact closeSession_sound _
  | startSession p => exact startSession_sound p _
  | command c =>
    cases c with
    | op i => exact absurd rfl (hx i)
    | scan lo hi =>
      rw [idleInput, otherCommand, execScan]
      refine guarded_sound (s := s.took rest) fun _ => ?_
      split
      · trivial
      · exact sound_of_next (exists_scanHead rfl rfl)
    | encodePing | encodeSetId | encodeGetPosition => exact guarded_sound fun _ => trivial
    | encodeMove id raw =>
      refine guarded_sound (s := s.took rest) fun _ => ?_
      cases encodeMove id raw <;> trivial
    | encodeSetSpeed id raw =>
      refine guarded_sound (s := s.took rest) fun _ => ?_
      cases encodeSetSpeed id raw <;> trivial
  | scanContinue =>
    rw [idleInput, scanContinue]
    split
    · rename_i ha
      obtain ⟨n, hi, _, hn, hhi, -⟩ := (scanning_iff_of_scanActive ha).mp hi.scan
      exact sound_of_next (exists_scanHead hn hhi)
    · trivial
  | scanAbandon =>
    rw [idleInput, scanAbandon]
    split <;> trivial
  | answer => trivial

theorem Inv.step_sound_of_idle {s : State} (hi : Inv s) (hs : s.seq = .seqIdle) : sound (step s) := by
  cases hin : s.inputs with
  | nil =>
    simp [step, fetch, hs, hin, preempts, fetchCommand, hostStep, sound]
  | cons x rest =>
    by_cases hop : ∃ i, x = .command (.op i)
    · obtain ⟨i, rfl⟩ := hop
      rw [step_command hs hin]
      exact exec_sound_of_seqIdle (s := s.took rest) hs i
    · have hx : ∀ i, x ≠ .command (.op i) := fun i h => hop ⟨i, h⟩
      rw [step_idle_input hs hin hx]
      exact idleInput_sound hi hx

theorem step_sound_of_preempts {s : State} (hp : preempts s.inputs = true) : sound (step s) := by
  unfold preempts at hp
  split at hp
  · rename_i rest hin
    exact sound_of_next ⟨_, step_reset hin⟩
  · rename_i rest hin
    rw [step_close hin]
    exact closeSession_sound _
  · cases hp

theorem Inv.step_sound {s : State} (hi : Inv s) : sound (step s) := by
  by_cases hs : s.seq = .seqIdle
  · exact hi.step_sound_of_idle hs
  · cases hp : preempts s.inputs with
    | true => exact step_sound_of_preempts hp
    | false =>
      by_cases ha : ∀ q, s.outstanding = some q → answered q s.inputs = true
      · exact sound_of_next (hi.exists_step_of_busy hs hp ha)
      · simp only [not_forall, Bool.not_eq_true] at ha
        obtain ⟨q, hq, ha⟩ := ha
        rw [hi.step_stalled hq hp ha]
        exact s.stalled_sound q

/-- Settles O17. -/
theorem noStepReadsAnUnwrittenRegister : Obligations.NoStepReadsAnUnwrittenRegister := by
  unfold Obligations.NoStepReadsAnUnwrittenRegister
  intro s hi
  have h := hi.step_sound
  refine ⟨fun r hr => ?_, fun hr => ?_⟩
  · rwa [hr] at h
  · rwa [hr] at h

end Sys2Proof.Machine
end

section
/-! PROOF. Family other, 43_operations.md section 3: every answered operation and scan comes to an end. -/

namespace Sys2Proof.Machine

/-! ## The steps left -/

theorem stepsLeft_of_seqIdle {s : State} (hs : s.seq = .seqIdle) : s.stepsLeft = 0 := by
  simp only [State.stepsLeft, hs]

theorem stepsLeft_of_seqTx {s : State} (hs : s.seq = .seqTx) : s.stepsLeft = s.cfgMaxRetries.getD 0 + 5 := by
  simp only [State.stepsLeft, hs]

section
variable {s : State} (hs : s.seq = .seqRx)
include hs

theorem stepsLeft_of_rstate_idle (hr : s.rstate = .idle) : s.stepsLeft = s.cfgMaxRetries.getD 0 + 4 := by
  simp only [State.stepsLeft, hs, hr]

theorem stepsLeft_of_polling (hr : s.rstate = .polling) :
    s.stepsLeft = (s.cfgMaxRetries.getD 0 - s.attempt) + 3 := by
  simp only [State.stepsLeft, hs, hr]

theorem stepsLeft_of_reading (hr : s.rstate = .reading) : s.stepsLeft = 2 := by
  simp only [State.stepsLeft, hs, hr]

theorem stepsLeft_of_success (hr : s.rstate = .success) : s.stepsLeft = 1 := by
  simp only [State.stepsLeft, hs, hr]

theorem stepsLeft_of_failed (hr : s.rstate = .failed) : s.stepsLeft = 1 := by
  simp only [State.stepsLeft, hs, hr]

end

theorem stepsLeft_pos {s : State} (hs : s.seq ≠ .seqIdle) : 0 < s.stepsLeft := by
  unfold State.stepsLeft
  split
  · contradiction
  · exact Nat.succ_pos _
  · split <;> exact Nat.succ_pos _

theorem pollAnswer_stepsLeft {m tm : Nat} {p : PollAnswer} {rest : List Input} {s t : State}
    (h : pollAnswer m p ((s.took rest).countPoll tm) = .next t) (hs : s.seq = .seqRx) (hr : s.rstate = .polling)
    (hm : s.cfgMaxRetries = some m) (hlt : s.attempt < m) : t.stepsLeft < s.stepsLeft := by
  rw [stepsLeft_of_polling hs hr, hm, Option.getD_some]
  have hs' : t.seq = .seqRx := (seq_of_besideRead_eq (pollAnswer_besideRead h)).trans hs
  obtain ⟨-, rfl⟩ | ⟨-, rfl⟩ | ⟨-, -, -, rfl⟩ | ⟨-, -, rfl⟩ := pollAnswer_next.mp h
  · rw [stepsLeft_of_failed hs' rfl]
    omega
  · rw [stepsLeft_of_reading hs' rfl]
    omega
  · rw [stepsLeft_of_polling hs' hr, State.countPoll_attempt, State.countPoll_cfgMaxRetries,
      State.took_cfgMaxRetries, State.took_attempt, hm, Option.getD_some]
    omega
  · rw [stepsLeft_of_failed hs' rfl]
    omega

theorem readAnswer_stepsLeft {a : ReadAnswer} {rest : List Input} {s t : State}
    (h : readAnswer a (s.took rest) = .next t) (hs : s.seq = .seqRx) (hr : s.rstate = .reading) :
    t.stepsLeft < s.stepsLeft := by
  rw [stepsLeft_of_reading hs hr]
  have hs' : t.seq = .seqRx := (seq_of_besideRead_eq (readAnswer_besideRead h)).trans hs
  obtain ⟨n, -, ⟨bs, -, -, rfl⟩ | ⟨-, rfl⟩⟩ := readAnswer_next.mp h
  · rw [stepsLeft_of_success hs' rfl]
    omega
  · rw [stepsLeft_of_failed hs' rfl]
    omega

/-! ## What a step of a busy block leaves -/

/-- Inside a scan the operation in progress is a ping (R36, R206). -/
theorem Inv.curOp_of_scanActive {s : State} (hi : Inv s) (ha : s.scanActive = true) (hs : s.seq ≠ .seqIdle) :
    ∃ n, s.curOp = some (.ping n) := by
  obtain ⟨n, _, _, -, -, -, -, -, -, -, hbusy⟩ := (scanning_iff_of_scanActive ha).mp hi.scan
  obtain ⟨-, hc⟩ := hbusy hs
  exact ⟨_, hc⟩

/-- An operation that is no ping runs outside a scan. -/
theorem Inv.scanActive_of_curOp {s : State} {i : Instr} (hi : Inv s) (hs : s.seq ≠ .seqIdle) (hc : s.curOp = some i)
    (hne : ∀ id, i ≠ .ping id) : s.scanActive = false := by
  cases ha : s.scanActive with
  | false => rfl
  | true =>
    obtain ⟨n, hping⟩ := hi.curOp_of_scanActive ha hs
    exact absurd (Option.some.inj (hc.symm.trans hping)) (hne n)

/-- The operation goes on, with fewer steps left and the scan where it was. -/
def State.goesOn (s t : State) : Prop :=
  t.seq ≠ .seqIdle ∧ t.scanRegs = s.scanRegs ∧ t.stepsLeft < s.stepsLeft

/-- The operation has ended: no scan is active, or its next id stands in SCAN_NEXT (R206). -/
def State.comesToEnd (s t : State) : Prop :=
  t.seq = .seqIdle ∧
    (t.scanActive = false ∨
      ∃ n, s.scanNext = some n ∧ t.scanActive = true ∧ t.scanNext = some (n + 1) ∧ t.scanHi = s.scanHi)

theorem raise_comesToEnd {e : ErrorKind} {s t : State} (h : raise e s = .next t) : s.comesToEnd t := by
  obtain ⟨ha, rfl⟩ | ⟨n, -, -, rfl⟩ := raise_next.mp h
  · exact ⟨rfl, .inl ha⟩
  · exact ⟨rfl, .inl rfl⟩

theorem finishPing_comesToEnd {b : Bool} {s t : State} (h : finishPing b s = .next t) : s.comesToEnd t := by
  obtain ⟨ha, rfl⟩ | ⟨ha, h⟩ := finishPing_next.mp h
  · exact ⟨rfl, .inl ha⟩
  · obtain ⟨n, hn, ⟨-, f, -, rfl⟩ | ⟨-, rfl⟩⟩ := scanItem_next.mp h
    · exact ⟨rfl, .inr ⟨n, hn, ha, rfl, rfl⟩⟩
    · exact ⟨rfl, .inr ⟨n, hn, ha, rfl, rfl⟩⟩

theorem scanRegs_of_besideRead_eq {s t : State} (h : t.besideRead = s.besideRead) : t.scanRegs = s.scanRegs := by
  simp only [State.besideRead, Prod.mk.injEq] at h
  obtain ⟨-, hregs, -⟩ := h
  exact hregs

/-- An operation in progress goes on or ends; only a reset or a close comes between. -/
theorem Transition.of_busy {s t : State} (h : Transition s t) (hi : Inv s) (hs : s.seq ≠ .seqIdle)
    (hp : preempts s.inputs = false) : s.goesOn t ∨ s.comesToEnd t := by
  cases h with
  | reset hin | close hin => simp [hin, preempts] at hp
  | scanGoOn _ hidle | scanGiveUp _ hidle => exact absurd hidle hs
  | encoded _ ha | scanBegin _ ha | begin _ ha | rejected _ ha =>
    obtain ⟨-, hidle, -⟩ := ha
    exact absurd hidle hs
  | @written rest _ _ f _ hq =>
    obtain ⟨-, hidle, -⟩ := hi.sequence.of_seqTx hq
    refine .inl ⟨by simp, rfl, ?_⟩
    rw [stepsLeft_of_seqTx hq,
      stepsLeft_of_rstate_idle (s := { (s.took rest).issue (.txWrite f) with seq := .seqRx }) rfl hidle]
    exact Nat.lt_succ_self _
  | @invoke _ n hq hr =>
    refine .inl ⟨hs, rfl, ?_⟩
    rw [stepsLeft_of_rstate_idle hq hr, stepsLeft_of_polling (s := s.invokeRead n) hq rfl]
    exact Nat.lt_succ_self _
  | polled hq hr _ hm _ hlt _ h =>
    have hbeside : t.besideRead = s.besideRead := (pollAnswer_besideRead h :)
    exact .inl ⟨seq_of_besideRead_eq hbeside ▸ hs, scanRegs_of_besideRead_eq hbeside,
      pollAnswer_stepsLeft h hq hr hm hlt⟩
  | read hq hr _ h =>
    have hbeside : t.besideRead = s.besideRead := (readAnswer_besideRead h :)
    exact .inl ⟨seq_of_besideRead_eq hbeside ▸ hs, scanRegs_of_besideRead_eq hbeside, readAnswer_stepsLeft h hq hr⟩
  | writeDone _ _ hc _ hn =>
    exact .inr ⟨rfl, .inl (hi.scanActive_of_curOp hs hc (by rintro id rfl; cases hn))⟩
  | located _ _ hc => exact .inr ⟨rfl, .inl (hi.scanActive_of_curOp hs hc (by simp))⟩
  | writeFailed _ _ _ _ _ h => exact .inr (raise_comesToEnd h :)
  | badChecksum _ _ _ _ _ h => exact .inr (raise_comesToEnd h)
  | readFailed _ _ _ _ h => exact .inr (raise_comesToEnd h)
  | pinged _ _ _ _ _ _ h => exact .inr (finishPing_comesToEnd h)
  -- The case left is a session start, which only an idle block takes.
  | _ => exact absurd ‹s.seq = .seqIdle› hs

/-- Settles O54. An answered block has a step, after which the operation has ended or fewer steps are left. -/
theorem answeredOperationsComeToAnEnd : Obligations.AnsweredOperationsComeToAnEnd := by
  unfold Obligations.AnsweredOperationsComeToAnEnd
  intro s hi hs hp ha
  obtain ⟨t, hstep⟩ := hi.exists_step_of_busy hs hp ha
  refine ⟨t, hstep, ?_⟩
  obtain ⟨-, -, hlt⟩ | ⟨hidle, -⟩ := (step_transition hstep).of_busy hi hs hp
  · exact hlt
  · rw [stepsLeft_of_seqIdle hidle]
    exact stepsLeft_pos hs

/-! ## Scans -/

theorem scanStepsLeft_of_scanActive_false {s : State} (ha : s.scanActive = false) : s.scanStepsLeft = 0 := by
  simp [State.scanStepsLeft, ha]

/-- Between two items: for each id left a whole ping and a choice, and the end of the scan. -/
theorem scanStepsLeft_of_seqIdle {s : State} {n hi : Nat} (hs : s.seq = .seqIdle) (ha : s.scanActive = true)
    (hn : s.scanNext = some n) (hhi : s.scanHi = some hi) :
    s.scanStepsLeft = (hi - n) * (s.cfgMaxRetries.getD 0 + 7) + 1 := by
  simp [State.scanStepsLeft, ha, hn, hhi, hs, stepsLeft_of_seqIdle hs]

/-- During a ping, what is left of it stands for its id. -/
theorem scanStepsLeft_of_busy {s : State} {n hi : Nat} (hs : s.seq ≠ .seqIdle) (ha : s.scanActive = true)
    (hn : s.scanNext = some n) (hhi : s.scanHi = some hi) :
    s.scanStepsLeft = (hi - n - 1) * (s.cfgMaxRetries.getD 0 + 7) + s.stepsLeft + 1 := by
  simp [State.scanStepsLeft, ha, hn, hhi, hs]

/-- A session start is for an idle block (log 22), so a step of a busy one keeps the configuration. -/
theorem Transition.session_eq_of_busy {s t : State} (h : Transition s t) (hs : s.seq ≠ .seqIdle)
    (hp : preempts s.inputs = false) : t.session = s.session := by
  obtain ⟨rest, hin, -⟩ | ⟨rest, hin, -⟩ | ⟨-, -, -, -, -, -, -, hidle, -⟩ | h := h.session_cases
  · simp [hin, preempts] at hp
  · simp [hin, preempts] at hp
  · exact absurd hidle hs
  · exact h

theorem cfgMaxRetries_of_session_eq {s t : State} (h : t.session = s.session) : t.cfgMaxRetries = s.cfgMaxRetries :=
  congrArg Prod.fst h

/-- A step of a busy block leaves a scan fewer steps: the ping goes on, or its id is done with, or the scan has ended. -/
theorem scanStepsLeft_lt_of_busy {s t : State} (hi : Inv s) (ha : s.scanActive = true) (hs : s.seq ≠ .seqIdle)
    (hsession : t.session = s.session) (h : s.goesOn t ∨ s.comesToEnd t) : t.scanStepsLeft < s.scanStepsLeft := by
  obtain ⟨n, hb, _, hn, hhi, -, -, -, -, -, hbusy⟩ := (scanning_iff_of_scanActive ha).mp hi.scan
  have hm := cfgMaxRetries_of_session_eq hsession
  rw [scanStepsLeft_of_busy hs ha hn hhi]
  obtain ⟨hs', hregs, hlt⟩ | ⟨hs', hend⟩ := h
  · simp only [State.scanRegs, Prod.mk.injEq] at hregs
    obtain ⟨ha', hn', hhi', -⟩ := hregs
    rw [scanStepsLeft_of_busy hs' (ha'.trans ha) (hn'.trans hn) (hhi'.trans hhi), hm]
    omega
  · obtain ha' | ⟨n', hn', ha', hnext, hhi'⟩ := hend
    · rw [scanStepsLeft_of_scanActive_false ha']
      exact Nat.succ_pos _
    · obtain rfl : n = n' := Option.some.inj (hn.symm.trans hn')
      have hpos := stepsLeft_pos hs
      rw [scanStepsLeft_of_seqIdle hs' ha' hnext (hhi'.trans hhi), hm, Nat.sub_sub]
      omega

/-- Going on between two items takes the choice of one id and begins its ping, or ends the scan. -/
theorem scanHead_scanStepsLeft {s t : State} {rest : List Input} {n hi : Nat} (h : scanHead (s.took rest) = .next t)
    (hs : s.seq = .seqIdle) (ha : s.scanActive = true) (hn : s.scanNext = some n) (hhi : s.scanHi = some hi) :
    t.scanStepsLeft < s.scanStepsLeft := by
  rw [scanStepsLeft_of_seqIdle hs ha hn hhi]
  obtain ⟨n', hi', hn', hhi', ⟨hlt, rfl⟩ | ⟨-, rfl⟩⟩ := scanHead_next.mp h
  · obtain rfl : n = n' := Option.some.inj (hn.symm.trans hn')
    obtain rfl : hi = hi' := Option.some.inj (hhi.symm.trans hhi')
    have hsplit : hi - n = (hi - n - 1) + 1 := by omega
    rw [scanStepsLeft_of_busy (s := (s.took rest).transmit _ _) (by simp) ha hn hhi, stepsLeft_of_seqTx rfl, hsplit,
      Nat.succ_mul]
    simp only [State.transmit_cfgMaxRetries, State.took_cfgMaxRetries, Nat.add_sub_cancel]
    omega
  · rw [scanStepsLeft_of_scanActive_false rfl]
    exact Nat.succ_pos _

theorem scanStepsLeft_pos {s : State} (ha : s.scanActive = true) : 0 < s.scanStepsLeft := by
  simp [State.scanStepsLeft, ha]

/-- Settles O55. The ping in progress goes on as any operation; between two items the host's choice is the step. -/
theorem answeredScansComeToAnEnd : Obligations.AnsweredScansComeToAnEnd := by
  unfold Obligations.AnsweredScansComeToAnEnd
  intro s hi ha hp hchoice hanswer
  by_cases hs : s.seq = .seqIdle
  · obtain ⟨n, hb, _, hn, hhi, -⟩ := (scanning_iff_of_scanActive ha).mp hi.scan
    obtain ⟨rest, hin | hin⟩ := hchoice hs
    · obtain ⟨t, ht⟩ := exists_scanHead (s := s.took rest) hn hhi
      exact ⟨t, (step_scanContinue hs ha hin).trans ht, scanHead_scanStepsLeft ht hs ha hn hhi⟩
    · refine ⟨_, step_scanAbandon hs ha hin, ?_⟩
      rw [scanStepsLeft_of_scanActive_false rfl]
      exact scanStepsLeft_pos ha
  · obtain ⟨t, hstep⟩ := hi.exists_step_of_busy hs hp hanswer
    have htr := step_transition hstep
    refine ⟨t, hstep, scanStepsLeft_lt_of_busy hi ha hs ?_ (htr.of_busy hi hs hp)⟩
    exact htr.session_eq_of_busy hs hp

end Sys2Proof.Machine
end

section
/-! PROOF. Family other, 43_operations.md: whole operations, from command to result. -/

namespace Sys2Proof.Machine

/-! ## The registers before and after an operation -/

/-- An operation that ends where another could start leaves the block as it was, but for what the host sees. -/
theorem endOperation_with {s : State} (h : s.operationEnded) (rest : List Input) (r : Result) (outs : List Output) :
    { s.endOperation with inputs := rest, result := some r, outputs := outs } =
      { s with inputs := rest, result := some r, outputs := outs } := by
  rw [State.endOperation_of_operationEnded h]

theorem runBlock_one {s t : State} (h : step s = .next t) : runBlock 1 s = .next t :=
  runBlock_next h

/-- The step that accepts a command, in a run. -/
theorem runBlock_command {k : Nat} {i : Instr} {s : State} {l : List Input} (hreq : i.isRequest = true)
    (hwf : i.wf = true) (ha : s.admits) (hin : s.inputs = .command (.op i) :: l) :
    runBlock (k + 1) s = runBlock k ((s.took l).transmit i (encode i)) := by
  have ⟨_, hs, _⟩ := ha
  exact runBlock_next ((step_command hs hin).trans (exec_of_admits (s := s.took l) hreq hwf ha))

/-- An operand outside its range is rejected in the accepting step (R203, R205). -/
theorem exec_of_not_wf {i : Instr} {s : State} (hreq : i.isRequest = true) (hwf : i.wf = false) (ha : s.admits)
    (hended : s.operationEnded) : exec i s = .next (s.post (.error .invalidRange)) := by
  cases i with
  | move id raw =>
    have hraw : ¬ validRaw raw = true := Bool.eq_false_iff.mp hwf
    exact opPhase_rejected (encodeMove_of_not_validRaw id hraw) ha hended
  | setSpeed id raw =>
    have hraw : ¬ validRaw raw = true := Bool.eq_false_iff.mp hwf
    exact opPhase_rejected (encodeSetSpeed_of_not_validRaw id hraw) ha hended
  | ping | setId | getPosition => cases hwf
  | _ => cases hreq

/-! ## Write-only operations -/

/-- The write of a write-only operation outside a scan: one request and one result (decision D10). -/
theorem txPhase_of_writeOnly {i : Instr} {u : State} {f : Frame} {a : WriteAnswer} {rest : List Input}
    (hn : i.replyLength = none) (hsc : u.scanActive = false) (hf : u.txbuf = some f)
    (hin : u.inputs = .answer (.write a) :: rest) :
    txPhase (afterWrite i) u =
      .next (((u.took rest).issue (.txWrite f)).endOperation.post
        (if a = .writeOk f.length then .done else .error .transportWriteFailed)) := by
  refine txPhase_next.mpr ⟨f, a, rest, hf, hin, ?_⟩
  by_cases ha : a = .writeOk f.length
  · rw [if_pos ha, afterWrite, hn]
    exact .inl ⟨ha, rfl⟩
  · rw [if_neg ha]
    exact .inr ⟨ha, raise_of_scanActive_false _ hsc⟩

/-- Settles O47. Acceptance and the write are the two steps; an invalid operand ends in the first. -/
theorem writeOnlyOperationsRunToTheirResult : Obligations.WriteOnlyOperationsRunToTheirResult := by
  unfold Obligations.WriteOnlyOperationsRunToTheirResult
  intro i a s rest r hreq hn ha hended
  have ⟨_, hs, hsc⟩ := ha
  refine ⟨?valid, ?invalid⟩
  case valid =>
    rintro hwf rfl hin
    have hin : s.inputs = .command (.op i) :: .answer (.write a) :: rest := hin
    have hstep := (step_of_seqTx (s := (s.took (.answer (.write a) :: rest)).transmit i (encode i)) hreq rfl rfl
      rfl).trans (txPhase_of_writeOnly hn hsc rfl rfl)
    rw [runBlock_command hreq hwf ha hin, runBlock_one hstep]
    exact congrArg Host.Outcome.next (endOperation_with hended ..)
  case invalid =>
    rintro hwf rfl hin
    exact runBlock_one ((step_command hs hin).trans (exec_of_not_wf (s := s.took rest) hreq hwf ha hended))

/-! ## The write and the invocation of the read -/

/-- The frame is written and its reply comes next (43_operations.md R201, R204). -/
def State.written (f : Frame) (l : List Input) (u : State) : State :=
  { u with seq := .seqRx, inputs := l, outputs := u.outputs ++ [.request (.txWrite f)] }

theorem runBlock_written_invokeRead {i : Instr} {n : Nat} {u : State} {f : Frame} {l : List Input}
    (hn : i.replyLength = some n) (hs : u.seq = .seqTx) (hc : u.curOp = some i) (hf : u.txbuf = some f)
    (hr : u.rstate = .idle) (hin : u.inputs = .answer (.write (.writeOk f.length)) :: l) (hp : preempts l = false) :
    runBlock 2 u = .next ((u.written f l).invokeRead n) := by
  have hwritten : step u = .next (u.written f l) := by
    rw [step_of_seqTx (isRequest_of_replyLength hn) hs hc (by rw [hin]; rfl), afterWrite, hn]
    exact txPhase_next.mpr ⟨f, _, l, hf, hin, .inl ⟨rfl, rfl⟩⟩
  have hinvoked : step (u.written f l) = .next ((u.written f l).invokeRead n) := by
    rw [step_of_seqRx (s := u.written f l) hn rfl hc (by simp [State.written, hr]) hp]
    exact exec_of_rstate_idle (s := u.written f l) hn rfl hc hr
  exact (runBlock_next hwritten).trans (runBlock_one hinvoked)

/-! ## Polling -/

/-- A read of a reading operation in Polling, with these configuration registers. -/
structure PollsUnder (i : Instr) (m tm : Nat) (p : TimeoutPolicy) (s : State) : Prop where
  seq : s.seq = .seqRx
  rstate : s.rstate = .polling
  curOp : s.curOp = some i
  maxRetries : s.cfgMaxRetries = some m
  pollTimeout : s.cfgPollTimeout = some tm
  policy : s.cfgTimeoutPolicy = some p

/-- `k` polls are done and the read still polls. -/
def State.polledTimes (k tm : Nat) (l : List Input) (s : State) : State :=
  { s with attempt := s.attempt + k, inputs := l,
           outputs := s.outputs ++ List.replicate k (.request (.txPoll tm)) }

theorem PollsUnder.polledTimes {i : Instr} {m tm : Nat} {p : TimeoutPolicy} {s : State} (h : PollsUnder i m tm p s)
    (k : Nat) (l : List Input) : PollsUnder i m tm p (s.polledTimes k tm l) :=
  ⟨h.seq, h.rstate, h.curOp, h.maxRetries, h.pollTimeout, h.policy⟩

theorem PollsUnder.countPoll {i : Instr} {m tm : Nat} {p : TimeoutPolicy} {s : State} (h : PollsUnder i m tm p s)
    (l : List Input) : PollsUnder i m tm p ((s.took l).countPoll tm) :=
  ⟨h.seq, h.rstate, h.curOp, h.maxRetries, h.pollTimeout, h.policy⟩

theorem pollsUnder_invokeRead_written {i : Instr} {m tm : Nat} {p : TimeoutPolicy} {u : State}
    (hc : u.curOp = some i) (hm : u.cfgMaxRetries = some m) (htm : u.cfgPollTimeout = some tm)
    (hp : u.cfgTimeoutPolicy = some p) (n : Nat) (f : Frame) (l : List Input) :
    PollsUnder i m tm p ((u.written f l).invokeRead n) :=
  ⟨rfl, rfl, hc, hm, htm, hp⟩

/-- A poll that is answered is counted, and its answer looked at (R172 to R176). -/
theorem PollsUnder.step_eq {i : Instr} {n m tm : Nat} {p : TimeoutPolicy} {s : State} {a : PollAnswer}
    {l : List Input} (h : PollsUnder i m tm p s) (hn : i.replyLength = some n) (hlt : s.attempt < m)
    (hin : s.inputs = .answer (.poll a) :: l) : step s = pollAnswer m a ((s.took l).countPoll tm) := by
  rw [step_of_polling hn h.seq h.curOp h.rstate (by rw [hin]; rfl), pollStep, h.maxRetries, need_some,
    h.pollTimeout, need_some, if_pos hlt, awaitAnswer_of_answer hin]

theorem pollAnswer_timeout_retry {m : Nat} {s : State} (hp : s.cfgTimeoutPolicy = some .retryOnTimeout)
    (hlt : s.attempt < m) : pollAnswer m .timeout s = .next s :=
  pollAnswer_next.mpr (.inr (.inr (.inl ⟨rfl, hp, hlt, rfl⟩)))

theorem pollAnswer_timeout_fail {m : Nat} {p : TimeoutPolicy} {s : State} (hp : s.cfgTimeoutPolicy = some p)
    (hend : p = .abortOnTimeout ∨ ¬ s.attempt < m) :
    pollAnswer m .timeout s = .next (s.failRead .transportReadFailed) := by
  refine pollAnswer_next.mpr (.inr (.inr (.inr ⟨rfl, ?_, rfl⟩)))
  cases p with
  | abortOnTimeout => exact .inl hp
  | retryOnTimeout => exact .inr ⟨hp, hend.resolve_left (by simp)⟩

theorem polledTimes_zero (tm : Nat) (s : State) : s.polledTimes 0 tm s.inputs = s := by
  simp [State.polledTimes]

theorem polledTimes_countPoll (k tm : Nat) (l l' : List Input) (s : State) :
    ((s.took l').countPoll tm).polledTimes k tm l = s.polledTimes (k + 1) tm l := by
  simp [State.polledTimes, State.countPoll, State.issue, State.took, List.replicate_succ, Nat.add_assoc,
    Nat.add_comm 1 k]

/-- Timeouts within budget under RetryOnTimeout leave the read polling (R174). -/
theorem runBlock_timeouts {i : Instr} {n m tm k : Nat} {p : TimeoutPolicy} {s : State} {l : List Input}
    (h : PollsUnder i m tm p s) (hn : i.replyLength = some n) (hk : k = 0 ∨ p = .retryOnTimeout)
    (hlt : s.attempt + k < m) (hin : s.inputs = List.replicate k (Input.answer (.poll .timeout)) ++ l) :
    runBlock k s = .next (s.polledTimes k tm l) := by
  induction k generalizing s with
  | zero =>
    obtain rfl : s.inputs = l := hin
    rw [polledTimes_zero]
    rfl
  | succ k ih =>
    obtain rfl : p = .retryOnTimeout := hk.resolve_left (Nat.succ_ne_zero k)
    rw [List.replicate_succ, List.cons_append] at hin
    have hpolls := h.countPoll (List.replicate k (.answer (.poll .timeout)) ++ l)
    have hretry := (h.step_eq hn (by omega) hin).trans
      (pollAnswer_timeout_retry hpolls.policy (show s.attempt + 1 < m by omega))
    rw [runBlock_next hretry, ih hpolls (.inr rfl) (show s.attempt + 1 + k < m by omega) rfl, polledTimes_countPoll]

/-! ## Readiness and the read -/

/-- A poll is answered Ready (R176). -/
def State.ready (tm : Nat) (l : List Input) (s : State) : State :=
  { s with rstate := .reading, attempt := s.attempt + 1, inputs := l,
           outputs := s.outputs ++ [.request (.txPoll tm)] }

/-- A poll is answered Ready, and then the read of `n` bytes by `reply`. -/
def State.replied (n tm : Nat) (reply : Frame) (l : List Input) (s : State) : State :=
  { s with rxbuf := some reply, rstate := .success, attempt := s.attempt + 1, pHdrOk := some (hdrOk reply),
           pLenOk := some (lenOk reply), pChkOk := some (chkOk reply), inputs := l,
           outputs := s.outputs ++ [.request (.txPoll tm)] ++ [.request (.txRead n)] }

theorem runBlock_replied {i : Instr} {n m tm : Nat} {p : TimeoutPolicy} {s : State} {reply : Frame} {l : List Input}
    (h : PollsUnder i m tm p s) (hn : i.replyLength = some n) (hlt : s.attempt < m) (hrxn : s.rxn = some n)
    (hlen : reply.length = n)
    (hin : s.inputs = .answer (.poll .ready) :: .answer (.read (.readOk reply)) :: l) :
    runBlock 2 s = .next (s.replied n tm reply l) := by
  have hready : step s = .next (s.ready tm (.answer (.read (.readOk reply)) :: l)) := h.step_eq hn hlt hin
  have hread : step (s.ready tm (.answer (.read (.readOk reply)) :: l)) = .next (s.replied n tm reply l) := by
    rw [step_of_reading (s := s.ready tm (_ :: l)) hn h.seq h.curOp rfl rfl, readStep_of_answer rfl]
    exact readAnswer_next.mpr ⟨n, hrxn, .inl ⟨reply, rfl, hlen, rfl⟩⟩
  exact (runBlock_next hready).trans (runBlock_one hread)

/-! ## The whole round trip -/

/-- The block after a round trip whose frame is written, whose first `k` polls time out and whose read succeeds. -/
def State.exchanged (n tm k : Nat) (f reply : Frame) (rest : List Input) (u : State) : State :=
  { u with seq := .seqRx, rxn := some n, rxbuf := some reply, rstate := .success, attempt := k + 1, rerr := none,
           pHdrOk := some (hdrOk reply), pLenOk := some (lenOk reply), pChkOk := some (chkOk reply), inputs := rest,
           outputs := u.outputs ++ exchangeRequests f tm (k + 1) n }

theorem replied_polledTimes_invokeRead_written (n tm k : Nat) (f reply : Frame) (l l' rest : List Input) (u : State) :
    (((u.written f l).invokeRead n).polledTimes k tm l').replied n tm reply rest =
      u.exchanged n tm k f reply rest := by
  simp [State.exchanged, State.replied, State.polledTimes, State.written, State.invokeRead, exchangeRequests,
    List.replicate_succ']

theorem runBlock_exchanged {i : Instr} {n m tm k : Nat} {p : TimeoutPolicy} {u : State} {f reply : Frame}
    {rest : List Input} (hn : i.replyLength = some n) (hs : u.seq = .seqTx) (hc : u.curOp = some i)
    (hf : u.txbuf = some f) (hr : u.rstate = .idle) (hm : u.cfgMaxRetries = some m)
    (htm : u.cfgPollTimeout = some tm) (hp : u.cfgTimeoutPolicy = some p) (hlt : k < m)
    (hk : k = 0 ∨ p = .retryOnTimeout) (hlen : reply.length = n)
    (hin : u.inputs = exchange f.length k reply ++ rest) :
    runBlock (k + 4) u = .next (u.exchanged n tm k f reply rest) := by
  have hinputs : exchange f.length k reply ++ rest = .answer (.write (.writeOk f.length)) ::
      (List.replicate k (Input.answer (.poll .timeout)) ++
        .answer (.poll .ready) :: .answer (.read (.readOk reply)) :: rest) := by
    simp [exchange]
  have hpreempts : preempts (List.replicate k (Input.answer (.poll .timeout)) ++
      .answer (.poll .ready) :: .answer (.read (.readOk reply)) :: rest) = false := by
    cases k <;> rfl
  have hpolls := pollsUnder_invokeRead_written hc hm htm hp n f
  have hcount : 0 + k < m := (Nat.zero_add k).symm ▸ hlt
  rw [show k + 4 = 2 + (k + 2) by omega,
    runBlock_add (runBlock_written_invokeRead hn hs hc hf hr (hin.trans hinputs) hpreempts),
    runBlock_add (runBlock_timeouts (hpolls _) hn hk hcount rfl),
    runBlock_replied ((hpolls _).polledTimes k _) hn hcount rfl hlen rfl, replied_polledTimes_invokeRead_written]

/-- What a round trip begun by a command leaves, once its result is posted. -/
theorem endOperation_exchanged {s : State} (h : s.operationEnded) (i : Instr) (n tm k : Nat) (f reply : Frame)
    (l rest : List Input) (r : Result) :
    ((((s.took l).transmit i f).exchanged n tm k f reply rest).endOperation.post r) =
      { s with inputs := rest, result := some r,
               outputs := s.outputs ++ exchangeRequests f tm (k + 1) n ++ [.result r] } := by
  rw [← endOperation_with h]
  rfl

/-- A reply that Trust takes unseen, or whose checksum is good, is accepted after a round trip. -/
theorem exchanged_replyAccepted {n tm k : Nat} {f reply : Frame} {rest : List Input} {u : State} {c : ReplyCheck}
    (hck : u.cfgReplyCheck = some c) (hok : c = .trust ∨ chkOk reply = true) :
    (u.exchanged n tm k f reply rest).replyAccepted := by
  cases c with
  | trust => exact .inl hck
  | verify => exact .inr ⟨hck, congrArg some (hok.resolve_left (by simp))⟩

/-- After the round trip of a ping the step is its result. -/
theorem step_ping_exchanged {id : Byte} {tm k : Nat} {f reply : Frame} {rest : List Input} {u : State} {c : ReplyCheck}
    (hc : u.curOp = some (.ping id)) (hck : u.cfgReplyCheck = some c) (hok : c = .trust ∨ chkOk reply = true)
    (hlen : reply.length = 6) (hp : preempts rest = false) :
    step (u.exchanged 6 tm k f reply rest) =
      finishPing (decide (reply[2]? = some id)) (u.exchanged 6 tm k f reply rest) := by
  rw [step_of_seqRx (s := u.exchanged 6 tm k f reply rest) (n := 6) rfl rfl hc (by simp [State.exchanged]) hp]
  exact exec_ping_of_success rfl rfl hc rfl hlen (exchanged_replyAccepted hck hok)

/-- A run of `k + 6` steps from a command: acceptance, the round trip, and the completion. -/
theorem runBlock_round_trip {i : Instr} {n m tm k : Nat} {p : TimeoutPolicy} {s : State} {reply : Frame}
    {rest : List Input} {r : Result} (hn : i.replyLength = some n) (hwf : i.wf = true) (ha : s.admits)
    (hended : s.operationEnded) (hm : s.cfgMaxRetries = some m) (htm : s.cfgPollTimeout = some tm)
    (hp : s.cfgTimeoutPolicy = some p) (hlt : k < m) (hk : k = 0 ∨ p = .retryOnTimeout) (hlen : reply.length = n)
    (hin : s.inputs = .command (.op i) :: (exchange (encode i).length k reply ++ rest))
    (hdone : ∀ l, step (((s.took l).transmit i (encode i)).exchanged n tm k (encode i) reply rest) =
      .next ((((s.took l).transmit i (encode i)).exchanged n tm k (encode i) reply rest).endOperation.post r)) :
    runBlock (k + 6) s =
      .next { s with inputs := rest, result := some r,
                     outputs := s.outputs ++ exchangeRequests (encode i) tm (k + 1) n ++ [.result r] } := by
  have ⟨_, _, _, hidle, _⟩ := hended
  set l := exchange (encode i).length k reply ++ rest
  calc runBlock (k + 6) s
      = runBlock (k + 4 + 1) ((s.took l).transmit i (encode i)) :=
        runBlock_command (isRequest_of_replyLength hn) hwf ha hin
    _ = runBlock 1 (((s.took l).transmit i (encode i)).exchanged n tm k (encode i) reply rest) :=
        runBlock_add (runBlock_exchanged hn rfl rfl rfl hidle hm htm hp hlt hk hlen rfl)
    _ = .next _ := runBlock_one (hdone l)
    _ = .next _ := congrArg Host.Outcome.next (endOperation_exchanged hended i n tm k (encode i) reply l rest r)

/-- Settles O48: the round trip to a reply in RXBUF, after which PingMatch is the result. -/
theorem pingRunsToItsResult : Obligations.PingRunsToItsResult := by
  unfold Obligations.PingRunsToItsResult
  intro id k m tm p c reply s rest ha hended hm htm hp hck hlt hk hlen hok hpre hin
  have ⟨_, _, hscan⟩ := ha
  exact runBlock_round_trip (i := .ping id) rfl rfl ha hended hm htm hp hlt hk hlen hin fun l =>
    (step_ping_exchanged (u := (s.took l).transmit _ _) rfl hck hok hlen hpre).trans
      (finishPing_of_scanActive_false _ (by exact hscan))

/-- Settles O49: the round trip to a reply in RXBUF, after which its position is the result. -/
theorem getPositionRunsToItsResult : Obligations.GetPositionRunsToItsResult := by
  unfold Obligations.GetPositionRunsToItsResult
  intro id b0 b1 b2 b3 b4 b5 b6 b7 k m tm p c s rest ha hended hm htm hp hck hlt hk hok hpre hin
  refine runBlock_round_trip (i := .getPosition id) rfl rfl ha hended hm htm hp hlt hk rfl hin fun l => ?_
  set u := (s.took l).transmit (.getPosition id) (encode (.getPosition id))
  rw [step_of_seqRx (s := u.exchanged ..) (i := .getPosition id) rfl rfl rfl (by simp [State.exchanged]) hpre]
  exact exec_getPosition_of_success rfl rfl rfl rfl rfl (exchanged_replyAccepted (u := u) hck hok)

end Sys2Proof.Machine
end

section
/-! PROOF. Family other, 42_poll_controller.md section 3: the silent transport, and ReadExact as one procedure. -/

namespace Sys2Proof.Machine

/-! ## A transport that is never ready -/

theorem runBlock_one_eq_step (s : State) : runBlock 1 s = step s := by
  cases h : step s with
  | next t => exact runBlock_next h
  | fault r => exact runBlock_fault h
  | refused r => exact runBlock_refused h

/-- The block after a read whose `k` polls all time out. -/
def State.exhausted (n tm k : Nat) (f : Frame) (rest : List Input) (u : State) : State :=
  { u with seq := .seqRx, rxn := some n, rstate := .failed, attempt := k, rerr := some .transportReadFailed,
           inputs := rest,
           outputs := u.outputs ++ .request (.txWrite f) :: List.replicate k (.request (.txPoll tm)) }

theorem failRead_polledTimes_invokeRead_written (n tm k : Nat) (f : Frame) (l rest : List Input) (u : State) :
    (((u.written f l).invokeRead n).polledTimes k tm rest).failRead .transportReadFailed =
      u.exhausted n tm k f rest := by
  simp [State.exhausted, State.failRead, State.polledTimes, State.written, State.invokeRead]

theorem countPoll_took_polledTimes (k tm : Nat) (l l' : List Input) (s : State) :
    ((s.polledTimes k tm l).took l').countPoll tm = s.polledTimes (k + 1) tm l' := by
  simp [State.polledTimes, State.countPoll, State.issue, State.took, List.replicate_succ', Nat.add_assoc]

/-- The timeouts before the last leave the read polling, the last one fails it (R174). -/
theorem runBlock_timeouts_fail {i : Instr} {n m tm k : Nat} {p : TimeoutPolicy} {s : State} {l : List Input}
    (h : PollsUnder i m tm p s) (hn : i.replyLength = some n) (hk : k = 0 ∨ p = .retryOnTimeout)
    (hlt : s.attempt + k < m) (hend : p = .abortOnTimeout ∨ s.attempt + k + 1 = m)
    (hin : s.inputs = List.replicate k (Input.answer (.poll .timeout)) ++ .answer (.poll .timeout) :: l) :
    runBlock (k + 1) s = .next ((s.polledTimes (k + 1) tm l).failRead .transportReadFailed) := by
  have hpolls := h.polledTimes (k + 1) l
  have hspent : p = .abortOnTimeout ∨ ¬ (s.polledTimes (k + 1) tm l).attempt < m :=
    hend.imp_right fun hm => show ¬ s.attempt + (k + 1) < m by omega
  rw [runBlock_add (runBlock_timeouts h hn hk hlt hin), runBlock_one_eq_step,
    (h.polledTimes k _).step_eq hn hlt rfl, countPoll_took_polledTimes]
  exact pollAnswer_timeout_fail hpolls.policy hspent

theorem runBlock_exhausted {i : Instr} {n m tm k : Nat} {p : TimeoutPolicy} {u : State} {f : Frame} {rest : List Input}
    (hn : i.replyLength = some n) (hs : u.seq = .seqTx) (hc : u.curOp = some i) (hf : u.txbuf = some f)
    (hr : u.rstate = .idle) (hm : u.cfgMaxRetries = some m) (htm : u.cfgPollTimeout = some tm)
    (hp : u.cfgTimeoutPolicy = some p) (hlt : k < m) (hk : k = 0 ∨ p = .retryOnTimeout)
    (hend : p = .abortOnTimeout ∨ k + 1 = m)
    (hin : u.inputs = .answer (.write (.writeOk f.length)) ::
      (List.replicate (k + 1) (Input.answer (.poll .timeout)) ++ rest)) :
    runBlock (2 + (k + 1)) u = .next (u.exhausted n tm (k + 1) f rest) := by
  have hpolls := pollsUnder_invokeRead_written hc hm htm hp n f
  have hcount : 0 + k < m := (Nat.zero_add k).symm ▸ hlt
  have hspent : p = .abortOnTimeout ∨ 0 + k + 1 = m := (Nat.zero_add k).symm ▸ hend
  have hinputs : ∀ l : List Input, List.replicate (k + 1) (Input.answer (.poll .timeout)) ++ l =
      List.replicate k (Input.answer (.poll .timeout)) ++ .answer (.poll .timeout) :: l := by
    simp [List.replicate_succ']
  rw [runBlock_add (runBlock_written_invokeRead hn hs hc hf hr hin rfl),
    runBlock_timeouts_fail (hpolls _) hn hk hcount hspent (hinputs rest), failRead_polledTimes_invokeRead_written]

theorem wf_of_replyLength {i : Instr} {n : Nat} (h : i.replyLength = some n) : i.wf = true := by
  obtain ⟨id, rfl, -⟩ | ⟨id, rfl, -⟩ := replyLength_some h <;> rfl

/-- A read that ran out of polls ends its operation with RERR. -/
theorem step_exhausted {i : Instr} {n tm k : Nat} {f : Frame} {rest : List Input} {u : State}
    (hn : i.replyLength = some n) (hc : u.curOp = some i) (hscan : u.scanActive = false)
    (hpre : preempts rest = false) :
    step (u.exhausted n tm k f rest) =
      .next ((u.exhausted n tm k f rest).endOperation.post (.error .transportReadFailed)) := by
  rw [step_of_seqRx (s := u.exhausted ..) hn rfl hc (by simp [State.exhausted]) hpre,
    exec_of_failed (s := u.exhausted ..) hn rfl hc rfl rfl]
  exact raise_of_scanActive_false _ hscan

/-- All but the last of the timeouts that exhaust a budget: none under AbortOnTimeout (R174). -/
theorem exists_last_timeout {m polls : Nat} {p : TimeoutPolicy} (hpos : 1 ≤ m)
    (hpolls : polls = if p = .retryOnTimeout then m else 1) :
    ∃ k, polls = k + 1 ∧ k < m ∧ (k = 0 ∨ p = .retryOnTimeout) ∧ (p = .abortOnTimeout ∨ k + 1 = m) := by
  cases p with
  | abortOnTimeout => exact ⟨0, hpolls, hpos, .inl rfl, .inl rfl⟩
  | retryOnTimeout =>
    have hbudget : polls = m := hpolls
    exact ⟨m - 1, by omega, by omega, .inr rfl, .inr (by omega)⟩

/-- Settles O50. The polls are all those of the budget, or the first under AbortOnTimeout, and RERR is raised. -/
theorem silentTransportExhaustsTheBudget : Obligations.SilentTransportExhaustsTheBudget := by
  unfold Obligations.SilentTransportExhaustsTheBudget
  intro i n m tm polls p s rest hn ha hended hm htm hp hpos hpolls hpre hin
  have ⟨_, _, hscan⟩ := ha
  have ⟨_, _, _, hidle, _⟩ := hended
  obtain ⟨k, rfl, hlt, hk, hend⟩ := exists_last_timeout hpos hpolls
  replace hin : s.inputs = .command (.op i) :: .answer (.write (.writeOk (encode i).length)) ::
    (List.replicate (k + 1) (Input.answer (.poll .timeout)) ++ rest) := hin
  rw [show k + 1 + 4 = 2 + (k + 1) + 1 + 1 by omega,
    runBlock_command (isRequest_of_replyLength hn) (wf_of_replyLength hn) ha hin,
    runBlock_add (runBlock_exhausted (u := (s.took (_ :: _)).transmit i (encode i)) hn rfl rfl rfl hidle hm htm hp hlt
      hk hend rfl),
    runBlock_one (step_exhausted (u := (s.took (_ :: _)).transmit i (encode i)) hn rfl hscan hpre),
    ← endOperation_with hended, List.append_assoc s.outputs]
  rfl

/-! ## ReadExact as one procedure -/

/-- Neither a reset nor a close will come. -/
def undisturbed (l : List Input) : Prop := ∀ x ∈ l, x ≠ .reset ∧ x ≠ .closeSession

theorem undisturbed.preempts {l : List Input} (h : undisturbed l) : preempts l = false := by
  unfold Machine.preempts
  split
  · exact absurd rfl (h .reset (by simp)).1
  · exact absurd rfl (h .closeSession (by simp)).2
  · rfl

theorem undisturbed.of_eq_cons {x : Input} {l l' : List Input} (h : undisturbed l') (hl : l' = x :: l) :
    undisturbed l :=
  fun y hy => h y (hl ▸ List.mem_cons_of_mem x hy)

/-- The read and its answer, as the procedure of R179 writes them. -/
def readReply (n : Nat) (s : State) : Out :=
  awaitAnswer (.txRead n) s fun b s3 =>
    let s4 : State := { s3 with outputs := s3.outputs ++ [.request (.txRead n)] }
    match b with
    | .read (.readOk bs) =>
      if bs.length = n then
        .next { s4 with rxbuf := some bs, rstate := .success, pHdrOk := some (hdrOk bs),
                        pLenOk := some (lenOk bs), pChkOk := some (chkOk bs) }
      else .next { s4 with rerr := some .transportReadFailed, rstate := .failed }
    | .read .readErr => .next { s4 with rerr := some .transportReadFailed, rstate := .failed }
    | _ => .refused .noTransition

theorem readStep_eq_readReply {n : Nat} {s : State} (hn : s.rxn = some n) : readStep s = readReply n s := by
  rw [readStep, hn, need_some]
  refine awaitAnswer_congr fun a rest _ => ?_
  cases a with
  | write | poll => rfl
  | read r =>
    have hn' : (s.took rest).rxn = some n := hn
    cases r with
    | readErr => exact readAnswer_next.mpr ⟨n, hn', .inr ⟨nofun, rfl⟩⟩
    | readOk bs =>
      by_cases hlen : bs.length = n
      · exact (readAnswer_next.mpr ⟨n, hn', .inl ⟨bs, rfl, hlen, rfl⟩⟩).trans (if_pos hlen).symm
      · have hne : ∀ bs', ReadAnswer.readOk bs = .readOk bs' → bs'.length ≠ n := by
          rintro _ ⟨⟩
          exact hlen
        exact (readAnswer_next.mpr ⟨n, hn', .inr ⟨hne, rfl⟩⟩).trans (if_neg hlen).symm

/-! The rounds of the procedure, one equation for each way a round can go. -/

section
variable {n tm budget : Nat} {p : TimeoutPolicy} {s : State} {rest : List Input}

theorem readExactLoop_of_not_poll (h : ∀ a rest, s.inputs ≠ .answer (.poll a) :: rest) :
    readExactLoop n tm p (budget + 1) s = s.stalled (.txPoll tm) := by
  refine awaitAnswer_congr fun a rest hin => ?_
  cases a with
  | poll a => exact absurd hin (h a rest)
  | write | read => rfl

theorem readExactLoop_pollErr (hin : s.inputs = .answer (.poll .pollErr) :: rest) :
    readExactLoop n tm p (budget + 1) s = .next (((s.took rest).countPoll tm).failRead .transportPollFailed) :=
  awaitAnswer_of_answer hin _

theorem readExactLoop_ready (hin : s.inputs = .answer (.poll .ready) :: rest) :
    readExactLoop n tm p (budget + 1) s = readReply n (s.ready tm rest) :=
  awaitAnswer_of_answer hin _

theorem readExactLoop_timeout_fail (hin : s.inputs = .answer (.poll .timeout) :: rest)
    (hend : p = .abortOnTimeout ∨ budget = 0) :
    readExactLoop n tm p (budget + 1) s = .next (((s.took rest).countPoll tm).failRead .transportReadFailed) :=
  (awaitAnswer_of_answer hin _).trans (if_pos hend)

theorem readExactLoop_timeout_retry (hin : s.inputs = .answer (.poll .timeout) :: rest)
    (hgo : ¬ (p = .abortOnTimeout ∨ budget = 0)) :
    readExactLoop n tm p (budget + 1) s = readExactLoop n tm p budget ((s.took rest).countPoll tm) :=
  (awaitAnswer_of_answer hin _).trans (if_neg hgo)

end

/-- An attempt that no poll's answer follows waits, or is refused. -/
theorem PollsUnder.step_stalled {i : Instr} {n m tm : Nat} {p : TimeoutPolicy} {s : State} (h : PollsUnder i m tm p s)
    (hn : i.replyLength = some n) (hlt : s.attempt < m) (hpre : preempts s.inputs = false)
    (hno : ∀ a rest, s.inputs ≠ .answer (.poll a) :: rest) : step s = s.stalled (.txPoll tm) := by
  rw [step_of_polling hn h.seq h.curOp h.rstate hpre]
  refine pollStep_of_not_answered h.maxRetries h.pollTimeout hlt ?_
  cases hans : answered (.txPoll tm) s.inputs with
  | false => rfl
  | true =>
    obtain ⟨a, rest, hin⟩ := answered_txPoll hans
    exact absurd hin (hno a rest)

/-- The controller in Polling takes the rounds of the loop one by one, whatever the transport answers. -/
theorem exists_runBlock_readExactLoop {i : Instr} {n m tm : Nat} {p : TimeoutPolicy} (hn : i.replyLength = some n)
    (budget : Nat) {s : State} (h : PollsUnder i m tm p s) (hrxn : s.rxn = some n) (hbudget : s.attempt + budget = m)
    (hquiet : undisturbed s.inputs) : ∃ k, k ≤ budget + 1 ∧ runBlock k s = readExactLoop n tm p budget s := by
  induction budget generalizing s with
  | zero =>
    refine ⟨1, Nat.le_refl _, ?_⟩
    have hspent : ¬ s.attempt < m := by omega
    rw [runBlock_one_eq_step, step_of_polling hn h.seq h.curOp h.rstate hquiet.preempts, pollStep, h.maxRetries,
      need_some, h.pollTimeout, need_some, if_neg hspent, readExactLoop]
  | succ budget ih =>
    have hlt : s.attempt < m := by omega
    by_cases hpoll : ∃ a rest, s.inputs = .answer (.poll a) :: rest
    · obtain ⟨a, rest, hin⟩ := hpoll
      have hstep := h.step_eq hn hlt hin
      cases a with
      | pollErr => exact ⟨1, by omega, by rw [runBlock_one_eq_step, hstep, readExactLoop_pollErr hin]; rfl⟩
      | ready =>
        refine ⟨2, by omega, ?_⟩
        have hready : step s = .next (s.ready tm rest) := hstep
        rw [runBlock_next hready, runBlock_one_eq_step, readExactLoop_ready hin,
          step_of_reading (s := s.ready tm rest) hn h.seq h.curOp rfl (hquiet.of_eq_cons hin).preempts]
        exact readStep_eq_readReply hrxn
      | timeout =>
        by_cases hend : p = .abortOnTimeout ∨ budget = 0
        · refine ⟨1, by omega, ?_⟩
          rw [runBlock_one_eq_step, hstep, readExactLoop_timeout_fail hin hend]
          exact pollAnswer_timeout_fail (s := (s.took rest).countPoll tm) h.policy
            (hend.imp_right fun h0 => show ¬ s.attempt + 1 < m by omega)
        · obtain ⟨hretry, hleft⟩ := not_or.mp hend
          have hp : s.cfgTimeoutPolicy = some .retryOnTimeout := by
            cases p with
            | abortOnTimeout => exact absurd rfl hretry
            | retryOnTimeout => exact h.policy
          rw [pollAnswer_timeout_retry (s := (s.took rest).countPoll tm) hp (show s.attempt + 1 < m by omega)] at hstep
          obtain ⟨k, hk, hrun⟩ := ih (h.countPoll rest) hrxn (show s.attempt + 1 + budget = m by omega)
            (hquiet.of_eq_cons hin)
          exact ⟨k + 1, by omega, by rw [runBlock_next hstep, hrun, readExactLoop_timeout_retry hin hend]⟩
    · have hno : ∀ a rest, s.inputs ≠ .answer (.poll a) :: rest := fun a rest hin => hpoll ⟨a, rest, hin⟩
      refine ⟨1, by omega, ?_⟩
      rw [runBlock_one_eq_step, h.step_stalled hn hlt hquiet.preempts hno, readExactLoop_of_not_poll hno]

/-- Settles O51. The invocation is one step, and the rounds follow one another. -/
theorem controllerStepsMatchReadExact : Obligations.ControllerStepsMatchReadExact := by
  unfold Obligations.ControllerStepsMatchReadExact
  intro i n m tm p s hn hs hr hc hm htm hp hpos hquiet
  have hquiet : undisturbed s.inputs := hquiet
  have hinvoke : step s = .next (s.invokeRead n) :=
    (step_of_seqRx hn hs hc (by simp [hr]) hquiet.preempts).trans (exec_of_rstate_idle hn hs hc hr)
  obtain ⟨k, hk, hrun⟩ := exists_runBlock_readExactLoop (s := s.invokeRead n) hn m ⟨hs, rfl, hc, hm, htm, hp⟩ rfl
    (Nat.zero_add m) hquiet
  exact ⟨k + 1, by omega, by rw [runBlock_next hinvoke, hrun]; rfl⟩

end Sys2Proof.Machine
end

section
/-! PROOF. Family other, 43_operations.md section 2: a whole scan whose pings are all answered. -/

namespace Sys2Proof.Machine

/-- A scan at id `n` of a range that ends at `hi`, about to write its ping, with these configuration registers. -/
structure ScanPing (n hi m tm : Nat) (p : TimeoutPolicy) (c : ReplyCheck) (u : State) : Prop where
  seq : u.seq = .seqTx
  rstate : u.rstate = .idle
  curOp : u.curOp = some (.ping (scanId n))
  txbuf : u.txbuf = some (encodePing (scanId n))
  maxRetries : u.cfgMaxRetries = some m
  pollTimeout : u.cfgPollTimeout = some tm
  policy : u.cfgTimeoutPolicy = some p
  replyCheck : u.cfgReplyCheck = some c
  active : u.scanActive = true
  next : u.scanNext = some n
  bound : u.scanHi = some hi
  found : ∃ f, u.scanFound = some f

/-- The reply is one that the ping takes: six bytes, with a good checksum unless the check is Trust. -/
def answersPing (c : ReplyCheck) (r : Frame) : Prop := r.length = 6 ∧ (c = .trust ∨ chkOk r = true)

/-- The block once the ping at id `n` has answered with `r` (43_operations.md R206). -/
def State.itemPosted (n : Nat) (r : Frame) (w : State) : State :=
  (w.endOperation.nextItem n
    (if r[2]? = some (scanId n) then w.scanFound.map (· ++ [scanId n]) else w.scanFound)).post (scanItemOf n r)

theorem finishPing_itemPosted {n : Nat} {f : List Byte} {r : Frame} {w : State} (ha : w.scanActive = true)
    (hn : w.scanNext = some n) (hf : w.scanFound = some f) :
    finishPing (decide (r[2]? = some (scanId n))) w = .next (w.itemPosted n r) := by
  refine finishPing_next.mpr (.inr ⟨ha, scanItem_next.mpr ⟨n, hn, ?_⟩⟩)
  by_cases hid : r[2]? = some (scanId n)
  · exact .inl ⟨decide_eq_true hid, f, hf, by simp [State.itemPosted, scanItemOf, hid, hf]⟩
  · exact .inr ⟨decide_eq_false hid, by simp [State.itemPosted, scanItemOf, hid]⟩

/-- The block after the ping at id `n`, its item posted, and the host's choice next. -/
def State.pinged (n tm : Nat) (r : Frame) (l : List Input) (u : State) : State :=
  (u.exchanged 6 tm 0 (encodePing (scanId n)) r l).itemPosted n r

/-- The block after a scan that ran to its end. -/
def State.scanned (rest : List Input) (outs : List Output) (u : State) : State :=
  { u.endOperation.endScan with inputs := rest, result := some .complete, outputs := outs }

@[simp] theorem transmit_scanned (i : Instr) (f : Frame) (rest : List Input) (outs : List Output) (u : State) :
    (u.transmit i f).scanned rest outs = u.scanned rest outs := rfl

@[simp] theorem took_scanned (l rest : List Input) (outs : List Output) (u : State) :
    (u.took l).scanned rest outs = u.scanned rest outs := rfl

@[simp] theorem beginScan_scanned (lo hi : Nat) (rest : List Input) (outs : List Output) (u : State) :
    (u.beginScan lo hi).scanned rest outs = u.scanned rest outs := rfl

@[simp] theorem exchanged_scanned (n tm k : Nat) (f r : Frame) (l rest : List Input) (outs : List Output) (u : State) :
    (u.exchanged n tm k f r l).scanned rest outs = u.scanned rest outs := rfl

@[simp] theorem itemPosted_scanned (n : Nat) (r : Frame) (rest : List Input) (outs : List Output) (u : State) :
    (u.itemPosted n r).scanned rest outs = u.scanned rest outs := rfl

@[simp] theorem pinged_scanned (n tm : Nat) (r : Frame) (l rest : List Input) (outs : List Output) (u : State) :
    (u.pinged n tm r l).scanned rest outs = u.scanned rest outs := by
  rw [State.pinged, itemPosted_scanned, exchanged_scanned]

/-- Complete, posted where no operation is in progress. -/
theorem endScan_post_complete {u : State} (h : u.operationEnded) (l : List Input) :
    (u.took l).endScan.post .complete = u.scanned l (u.outputs ++ [.result .complete]) := by
  rw [State.scanned, State.endOperation_of_operationEnded h]
  rfl

theorem pinged_operationEnded (n tm : Nat) (r : Frame) (l : List Input) (u : State) :
    (u.pinged n tm r l).operationEnded :=
  ⟨rfl, rfl, rfl, rfl, rfl, rfl, rfl, rfl, rfl, rfl, rfl⟩

/-- The host goes on after that item, and the ping of the next id begins. -/
def State.nextPing (n tm : Nat) (r : Frame) (l : List Input) (u : State) : State :=
  ((u.pinged n tm r (.scanContinue :: l)).took l).transmit (.ping (scanId (n + 1))) (encodePing (scanId (n + 1)))

section
variable {n hi m tm : Nat} {p : TimeoutPolicy} {c : ReplyCheck} {r : Frame} {l : List Input} {u : State}

theorem ScanPing.runBlock_pinged (h : ScanPing n hi m tm p c u) (hpos : 1 ≤ m) (hr : answersPing c r)
    (hin : u.inputs = exchange 6 0 r ++ .scanContinue :: l) :
    runBlock 5 u = .next (u.pinged n tm r (.scanContinue :: l)) := by
  obtain ⟨hlen, hok⟩ := hr
  obtain ⟨f, hf⟩ := h.found
  have hexchange := runBlock_exchanged (i := .ping (scanId n)) rfl h.seq h.curOp h.txbuf h.rstate h.maxRetries
    h.pollTimeout h.policy hpos (.inl rfl) hlen hin
  have hitem := (step_ping_exchanged (tm := tm) (k := 0) (f := encodePing (scanId n)) h.curOp h.replyCheck hok hlen
    (rfl : preempts (.scanContinue :: l) = false)).trans
      (finishPing_itemPosted (w := u.exchanged ..) h.active h.next hf)
  exact (runBlock_add hexchange).trans (runBlock_one hitem)

/-- Going on after an item that is not the last begins the next ping. -/
theorem ScanPing.step_pinged_next (h : ScanPing n hi m tm p c u) (hlt : n + 1 < hi) :
    step (u.pinged n tm r (.scanContinue :: l)) =
      .next (u.nextPing n tm r l) := by
  rw [step_scanContinue (s := u.pinged ..) rfl h.active rfl]
  exact scanHead_next.mpr ⟨n + 1, hi, rfl, h.bound, .inl ⟨hlt, rfl⟩⟩

/-- Going on after the last item ends the scan with Complete (log 9). -/
theorem ScanPing.step_pinged_last (h : ScanPing n hi m tm p c u) (hend : n + 1 = hi) :
    step (u.pinged n tm r (.scanContinue :: l)) =
      .next (u.scanned l ((u.pinged n tm r (.scanContinue :: l)).outputs ++ [.result .complete])) := by
  rw [step_scanContinue (s := u.pinged ..) rfl h.active rfl, ← pinged_scanned n tm r (.scanContinue :: l),
    ← endScan_post_complete (pinged_operationEnded ..)]
  exact scanHead_next.mpr ⟨n + 1, hi, rfl, h.bound, .inr ⟨by omega, rfl⟩⟩

theorem ScanPing.nextPing (h : ScanPing n hi m tm p c u) : ScanPing (n + 1) hi m tm p c (u.nextPing n tm r l) where
  seq := rfl
  rstate := rfl
  curOp := rfl
  txbuf := rfl
  maxRetries := by simp [State.nextPing, State.pinged, State.itemPosted, State.exchanged, h.maxRetries]
  pollTimeout := by simp [State.nextPing, State.pinged, State.itemPosted, State.exchanged, h.pollTimeout]
  policy := by simp [State.nextPing, State.pinged, State.itemPosted, State.exchanged, h.policy]
  replyCheck := by simp [State.nextPing, State.pinged, State.itemPosted, State.exchanged, h.replyCheck]
  active := by simp [State.nextPing, State.pinged, State.itemPosted, State.exchanged, h.active]
  next := rfl
  bound := by simp [State.nextPing, State.pinged, State.itemPosted, State.exchanged, h.bound]
  found := by
    obtain ⟨f, hf⟩ := h.found
    by_cases hid : r[2]? = some (scanId n)
    · exact ⟨f ++ [scanId n], by simp [State.nextPing, State.pinged, State.itemPosted, State.exchanged, hid, hf]⟩
    · exact ⟨f, by simp [State.nextPing, State.pinged, State.itemPosted, State.exchanged, hid, hf]⟩

end

theorem nextPing_scanned (n tm : Nat) (r : Frame) (l rest : List Input) (outs : List Output) (u : State) :
    (u.nextPing n tm r l).scanned rest outs = u.scanned rest outs := by
  rw [State.nextPing, transmit_scanned, took_scanned, pinged_scanned]

/-- What a ping puts out comes before what the pings after it put out. -/
theorem outputs_scanOutputs_cons (n tm : Nat) (r : Frame) (rs : List Frame) (l : List Input) (u : State) :
    u.outputs ++ scanOutputs tm n (r :: rs) = (u.pinged n tm r l).outputs ++ scanOutputs tm (n + 1) rs := by
  have hitem : (u.pinged n tm r l).outputs =
      u.outputs ++ exchangeRequests (encodePing (scanId n)) tm 1 6 ++ [.result (scanItemOf n r)] := rfl
  rw [hitem, scanOutputs]
  simp

theorem scanInputs_cons_append (r : Frame) (rs : List Frame) (rest : List Input) :
    scanInputs (r :: rs) ++ rest = exchange 6 0 r ++ .scanContinue :: (scanInputs rs ++ rest) := by
  rw [scanInputs, List.append_assoc, List.cons_append]

/-- From the ping of an id on: one item for each reply, and Complete after the last. -/
theorem ScanPing.runBlock_scanned {hi m tm : Nat} {p : TimeoutPolicy} {c : ReplyCheck} {rest : List Input}
    (hpos : 1 ≤ m) (rs : List Frame) {r : Frame} {n : Nat} {u : State} (h : ScanPing n hi m tm p c u)
    (hlen : n + 1 + rs.length = hi) (hr : ∀ q ∈ r :: rs, answersPing c q)
    (hin : u.inputs = scanInputs (r :: rs) ++ rest) :
    runBlock (6 * (rs.length + 1)) u =
      .next (u.scanned rest (u.outputs ++ scanOutputs tm n (r :: rs) ++ [.result .complete])) := by
  have hping := h.runBlock_pinged hpos (hr r List.mem_cons_self) (hin.trans (scanInputs_cons_append r rs rest))
  rw [show 6 * (rs.length + 1) = 5 + (6 * rs.length + 1) by omega, runBlock_add hping,
    outputs_scanOutputs_cons n tm r rs (.scanContinue :: (scanInputs rs ++ rest)) u]
  match rs, hlen, hr with
  | [], hlen, _ =>
    rw [scanOutputs, List.append_nil]
    exact runBlock_one (h.step_pinged_last hlen)
  | r' :: rs, hlen, hr =>
    rw [List.length_cons] at hlen ⊢
    have hrun := h.nextPing.runBlock_scanned (r := r') (u := u.nextPing n tm r (scanInputs (r' :: rs) ++ rest)) hpos rs
      (by omega) (fun q hq => hr q (List.mem_cons_of_mem r hq)) rfl
    rw [runBlock_next (h.step_pinged_next (by omega)), hrun, nextPing_scanned]
    rfl

theorem endScan_of_noScan {s : State} (h : s.noScan) : s.endScan = s := by
  cases s
  cases h
  rfl

/-- The first step of a scan whose range is not empty. -/
theorem step_scan_first {lo hi : Nat} {s : State} {l : List Input} (ha : s.admits) (hmax : hi ≤ 256) (hlt : lo < hi)
    (hin : s.inputs = .command (.scan lo hi) :: l) :
    step s = .next (((s.took l).beginScan lo hi).transmit (.ping (scanId lo)) (encodePing (scanId lo))) := by
  obtain ⟨-, -, hfirst⟩ := scanStartsWithItsFirstPing lo hi s l ha hin
  exact hfirst hmax hlt

theorem step_scan_empty {lo hi : Nat} {s : State} {l : List Input} (ha : s.admits) (hmax : hi ≤ 256) (hle : hi ≤ lo)
    (hin : s.inputs = .command (.scan lo hi) :: l) :
    step s = .next ((s.took l).endScan.post .complete) := by
  obtain ⟨-, hempty, -⟩ := scanStartsWithItsFirstPing lo hi s l ha hin
  exact hempty hmax hle

/-- Settles O52: the scan command starts the first ping, and the pings follow by induction on the replies. -/
theorem answeredScanYieldsTheMatchingIds : Obligations.AnsweredScanYieldsTheMatchingIds := by
  unfold Obligations.AnsweredScanYieldsTheMatchingIds
  intro lo hi m tm p c replies s rest ha hended hsc hm htm hp hck hpos hle hmax hlen hr hin
  have ⟨_, _, hscan⟩ := ha
  have ⟨_, _, _, hidle, _⟩ := hended
  have hscanned : ∀ outs, s.scanned rest outs = { s with inputs := rest, result := some .complete, outputs := outs } := by
    intro outs
    rw [State.scanned, State.endOperation_of_operationEnded hended, endScan_of_noScan (hsc.noScan hscan)]
  rw [← hscanned, ← hlen, Nat.add_comm]
  match replies with
  | [] =>
    rw [scanOutputs, List.append_nil, ← endScan_post_complete hended]
    exact runBlock_one (step_scan_empty ha hmax (Nat.sub_eq_zero_iff_le.mp hlen.symm) hin)
  | r :: rs =>
    rw [List.length_cons] at hlen ⊢
    have hfirst : ScanPing lo hi m tm p c
        (((s.took (scanInputs (r :: rs) ++ rest)).beginScan lo hi).transmit (.ping (scanId lo)) (encodePing (scanId lo))) :=
      ⟨rfl, hidle, rfl, rfl, hm, htm, hp, hck, rfl, rfl, rfl, [], rfl⟩
    have hrun := hfirst.runBlock_scanned hpos rs (by omega) hr rfl
    rw [transmit_scanned, beginScan_scanned, took_scanned] at hrun
    exact (runBlock_next (step_scan_first ha hmax (by omega) hin)).trans hrun

end Sys2Proof.Machine
end
